-- ==== Sys2Proof/Word.lean ====
section
/-! DEFINITION. The word types of the core (00_scope.md R9, R13): 64-bit words, bytes, the 12-bit
register offset, and the fixed-size groups of words the data path works on.

`+`, `*`, `^^^`, `&&&`, `|||`, `~~~`, `>>>` on `BitVec 64` are the spec's operators of R14, R90, R91
and R93: addition and multiplication modulo 2^64, bitwise operations, logical right shift. -/

namespace Sys2Proof

/-- R13: an unsigned number below 2^64, bit 0 least significant. -/
abbrev Word := BitVec 64

/-- R13: one byte of a word, or one entry of an S-box table. -/
abbrev Byte := BitVec 8

/-- R9, R50: a byte offset into the 4 KiB register window. -/
abbrev Offset := BitVec 12

/-- R21: eight words, the shape of the hash state and of an initial vector. -/
abbrev Lanes := Vector Word 8

/-- R23: the sixteen words of the block buffer. -/
abbrev Block := Vector Word 16

/-- R24: the hundred words of the schedule memory. -/
abbrev Sched := Vector Word 100

end Sys2Proof
end

