-- ==== Sys2Proof/Syntax.lean ====
section
/-! DEFINITION. The commands, one constructor per row of spec/opcode_table.json (30_encoding.md R72),
and the four variants (R73). Operands are those of R71: the variant is in the constructor, as the
table has it, and `liv` is the LIV bit. -/

namespace Sys2Proof

/-- R1, R73: the variants H-A, H-B, H-C, H-D, selected per message by INIT. -/
inductive Variant
  | A | B | C | D
deriving DecidableEq, Repr, Inhabited

/-- R72: the eleven commands of the opcode table. -/
inductive Instr
  /-- R121 -/
  | nop
  /-- R122 with `VAR = 0`; `liv` is the LIV bit (R74) -/
  | initA (liv : Bool)
  /-- R122 with `VAR = 1` -/
  | initB (liv : Bool)
  /-- R122 with `VAR = 2` -/
  | initC (liv : Bool)
  /-- R122 with `VAR = 3` -/
  | initD (liv : Bool)
  /-- R140 -/
  | sched
  /-- R160 -/
  | rounds
  /-- R200 -/
  | fold
  /-- R205 -/
  | block
  /-- R215 -/
  | final
  /-- R125 -/
  | clear
deriving DecidableEq, Repr, Inhabited

end Sys2Proof
end

