-- ==== Sys2Proof/WellFormed.lean ====
section
/-! DEFINITION. Well-formedness of commands.

As syntax every `Instr` is well formed: the only operand a command has is the one bit LIV of INIT
(30_encoding.md R71), and its type admits exactly the two values the encoding admits. What can be
ill formed is a command WORD; `legalWord` is the spec's own check of it (R75), written from the rule
and not from the decoder, so that the two can be compared. -/

namespace Sys2Proof

/-- R71: every operand of every command is in range by its type. -/
def Instr.wf : Instr → Bool
  | .nop => true
  | .initA _ => true
  | .initB _ => true
  | .initC _ => true
  | .initD _ => true
  | .sched => true
  | .rounds => true
  | .fold => true
  | .block => true
  | .final => true
  | .clear => true

/-- R75: `c[63:9] = 0`, `c[7:6] = 0`, `c[3:0] <= 7`, and, unless `c[3:0] = 1`, `c[5:4] = 0` and
`c[8] = 0`. -/
def legalWord (c : Word) : Bool :=
  decide (c.extractLsb 63 9 = 0) && decide (c.extractLsb 7 6 = 0) && decide (c.extractLsb 3 0 ≤ 7)
    && (decide (c.extractLsb 3 0 = 1) || (decide (c.extractLsb 5 4 = 0) && decide (c.extractLsb 8 8 = 0)))

end Sys2Proof
end

