-- ==== Sys2Proof/Decode.lean ====
section
/-! DEFINITION. Command words: their fields (30_encoding.md R70), the decoder (R72, R73, R75, R76) and
the encoder (R81, R122). There is one length and one format (R70, R77). -/

namespace Sys2Proof

/-- R70: `OP`, bits 3:0. -/
def fieldOp (c : Word) : BitVec 4 := c.extractLsb' 0 4

/-- R70: `VAR`, bits 5:4. -/
def fieldVar (c : Word) : BitVec 2 := c.extractLsb' 4 2

/-- R70: the reserved bits 7:6. -/
def fieldRsv0 (c : Word) : BitVec 2 := c.extractLsb' 6 2

/-- R70: `LIV`, bit 8. -/
def fieldLiv (c : Word) : Bool := c.getLsbD 8

/-- R70: the reserved bits 63:9. -/
def fieldRsv1 (c : Word) : BitVec 55 := c.extractLsb' 9 55

/-- R73: the variant a `VAR` field selects. -/
def variantOfCode (v : BitVec 2) : Variant :=
  match v.toNat with
  | 0 => .A
  | 1 => .B
  | 2 => .C
  | _ => .D

/-- R73: the `VAR` code of a variant (also the field `STATUS.VAR`, R30). -/
def variantCode : Variant → BitVec 2
  | .A => 0
  | .B => 1
  | .C => 2
  | .D => 3

/-- R75, R76: why a word is not a legal encoding. All of them raise ERR_ILL. -/
inductive Illegal
  /-- a nonzero bit among 63:9 or 7:6 -/
  | reservedBits
  /-- an opcode 8 to 15 -/
  | reservedOpcode
  /-- a nonzero `VAR` or `LIV` on a command other than INIT -/
  | operandOnNonInit
deriving DecidableEq, Repr

/-- R72, R122: INIT of a variant. -/
def initOf (v : Variant) (liv : Bool) : Instr :=
  match v with
  | .A => .initA liv
  | .B => .initB liv
  | .C => .initC liv
  | .D => .initD liv

/-- R75: a command other than INIT has `VAR = 0` and `LIV = 0`. -/
def plain (c : Word) (i : Instr) : Except Illegal Instr :=
  if fieldVar c = 0 ∧ fieldLiv c = false then .ok i else .error .operandOnNonInit

/-- R72: the opcode map, for a word whose reserved bits are zero. -/
def decodeOp (c : Word) : Except Illegal Instr :=
  match (fieldOp c).toNat with
  | 0 => plain c .nop
  | 1 => .ok (initOf (variantOfCode (fieldVar c)) (fieldLiv c))
  | 2 => plain c .sched
  | 3 => plain c .rounds
  | 4 => plain c .fold
  | 5 => plain c .block
  | 6 => plain c .final
  | 7 => plain c .clear
  | _ => .error .reservedOpcode

/-- R75, R76: the command a word stands for, or why it is illegal; total on all 2^64 words. -/
def decode (c : Word) : Except Illegal Instr :=
  if fieldRsv1 c = 0 ∧ fieldRsv0 c = 0 then decodeOp c else .error .reservedBits

/-- R70: a word from its fields, the reserved bits zero. -/
def packWord (op : BitVec 4) (v : BitVec 2) (liv : Bool) : Word :=
  (0#55 ++ BitVec.ofBool liv ++ 0#2 ++ v ++ op : BitVec 64)

/-- R72, R73, R74, R81: the word of a command. -/
def encode : Instr → Word
  | .nop => packWord 0 0 false
  | .initA liv => packWord 1 (variantCode .A) liv
  | .initB liv => packWord 1 (variantCode .B) liv
  | .initC liv => packWord 1 (variantCode .C) liv
  | .initD liv => packWord 1 (variantCode .D) liv
  | .sched => packWord 2 0 false
  | .rounds => packWord 3 0 false
  | .fold => packWord 4 0 false
  | .block => packWord 5 0 false
  | .final => packWord 6 0 false
  | .clear => packWord 7 0 false

/-- The command word of an instruction given as `nbits` bits: the bits above `nbits` are zero. A value
that does not fit in one 64-bit command word is the bits of no command (R70). -/
def tableWord (nbits w : Nat) : Option Word :=
  if w % 2 ^ nbits < 2 ^ 64 then some (BitVec.ofNat 64 (w % 2 ^ nbits)) else none

/-- What the decoder reads from an instruction whose bits are `w`, numbered as the opcode table numbers
them; `none` where it refuses. -/
def decodeTableWord (nbits w : Nat) : Option Instr :=
  match tableWord nbits w with
  | none => none
  | some c =>
    match decode c with
    | .ok i => some i
    | .error _ => none

end Sys2Proof
end

