-- ==== Sys2Proof/Config.lean ====
section
/-! DEFINITION. What the spec leaves to the implementation: the constant tables `cfg.*` of 00_scope.md
R7, and the draws (00_scope.md R19) that stand for unspecified values.

Nothing here has a value a proof could lean on: the tables and the draws are opaque, so a claim about
them holds whatever they are. -/

namespace Sys2Proof

/-- R7: a table of words whose length is at least 1 (`cfg.NBASE >= 1` and the like), so it has a first
entry. -/
structure Table where
  first : Word
  rest : List Word
deriving DecidableEq, Repr, Inhabited

/-- The entries of a table, in order. -/
def Table.words (t : Table) : List Word := t.first :: t.rest

/-- The length of a table: `cfg.NBASE`, `cfg.NKB`, `cfg.NRCC`, `cfg.NRCD`, and the length of `AC`. -/
def Table.len (t : Table) : Nat := t.rest.length + 1

/-- R8: `SBOX_LEN`, the length of an S-box table and the modulus of its index (R101). -/
abbrev sboxLen : Nat := 232

/-- R8: `PBOX_LEN`, the length of the P-box table (R103). -/
abbrev pboxLen : Nat := 64

/-- R7, R26: the constant tables, read-only, never written by any command or by reset. -/
structure Cfg where
  /-- `cfg.IV_A` -/
  ivA : Lanes
  /-- `cfg.IV_B`, also read by the finalization of H-B (R217) -/
  ivB : Lanes
  /-- `cfg.IV_C` -/
  ivC : Lanes
  /-- `cfg.IV_D` -/
  ivD : Lanes
  /-- `cfg.BASE`, `cfg.NBASE` words -/
  base : Table
  /-- `cfg.KB`, `cfg.NKB` words -/
  kb : Table
  /-- `cfg.RCC`, `cfg.NRCC` words -/
  rcc : Table
  /-- `cfg.RCD`, `cfg.NRCD` words -/
  rcd : Table
  /-- `cfg.SBOX_C`, `SBOX_LEN` bytes (R101, 90_conflicts.md C1) -/
  sboxC : Vector Byte sboxLen
  /-- `cfg.SBOX_D`, `SBOX_LEN` bytes -/
  sboxD : Vector Byte sboxLen
  /-- `cfg.PBOX`, `PBOX_LEN` natural numbers (R103) -/
  pbox : Vector Nat pboxLen
deriving DecidableEq, Repr, Inhabited

/-- The tables the hardware was built with, of which the spec gives no value (R7, decision D1).
DESIGN CHOICE (log 1): an opaque constant; it is what `State.reset` carries. Safe. -/
opaque Config.platform : Cfg

/-- U1: what word `i` of `W` holds after the reset that takes draw `n`. DESIGN CHOICE (log 4). Safe. -/
opaque Config.resetW : (n i : Nat) → Word

/-- U1: what word `i` of `AC` holds after the reset that takes draw `n`. DESIGN CHOICE (log 4). Safe. -/
opaque Config.resetAC : (n i : Nat) → Word

/-- U2: what the host's read that takes draw `n` returns while the core is busy (R62).
DESIGN CHOICE (log 5). Safe. -/
opaque Config.busyRead : (n : Nat) → Word

end Sys2Proof
end

