-- ==== Sys2Proof/Machine/State.lean ====
section
/-! DEFINITION. The state of the machine as plain data: every piece of state of 10_state.md R20, the
configuration it was built with, and the host's side of the register window. -/

namespace Sys2Proof.Machine

/-- R28: the five values of `STATUS.PHASE`; values 5, 6 and 7 are never taken. -/
inductive Phase
  /-- 0: no message open -/
  | idle
  /-- 1: message open, between blocks -/
  | ready
  /-- 2: `W` holds the schedule of the current block -/
  | schd
  /-- 3: the working words hold the result of all rounds -/
  | rnds
  /-- 4: `S` holds the finalized digest words -/
  | fin
deriving DecidableEq, Repr, Inhabited

/-- R22: the working words `a` to `h` (register names `WA` to `WH`). -/
structure Working where
  a : Word
  b : Word
  c : Word
  d : Word
  e : Word
  f : Word
  g : Word
  h : Word
deriving DecidableEq, Repr, Inhabited

/-- R50, R53: one transaction of the host. `bytes` is the access width in bytes (the core answers only
8), `off` the byte offset in the window, `v` the 64-bit number a write delivers. -/
inductive Access
  | read (off : Offset) (bytes : Nat)
  | write (off : Offset) (bytes : Nat) (v : Word)
deriving DecidableEq, Repr

/-- R50: what the bus answers to a transaction. -/
inductive Response
  /-- the value a read returns -/
  | data (v : Word)
  /-- a write was delivered (and may have been ignored or dropped: R57, R63) -/
  | ok
  /-- R53, R54, R265: reserved offset, misaligned, or not 64 bits wide -/
  | busError
deriving DecidableEq, Repr

/-- R10: who acts next. DESIGN CHOICE (log 2): the spec does not fix the order of the host's
transactions and the core's completions, so it is data. -/
inductive Turn
  /-- the host performs one transaction -/
  | host (acc : Access)
  /-- the core completes the command in flight, if there is one (R120) -/
  | core
  /-- the reset input is asserted and released (R285) -/
  | reset
deriving DecidableEq, Repr

/-- The host's side of the window: the model's own bookkeeping, no state of the core (log 2, log 6). -/
structure HostSide where
  /-- who acts next, in order; when the list is empty the core acts -/
  turns : List Turn
  /-- the bus answer to the latest transaction -/
  response : Option Response
  /-- how many draws (R19) have been taken -/
  draws : Nat
deriving DecidableEq, Repr

/-- R20: the complete state of the core, under the spec's names, and beside it `cfg` (R41: a parameter
of the step, which no step changes; log 1) and `host` (the model's own; log 2). -/
structure State where
  /-- the constant tables (R7, R26) -/
  cfg : Cfg
  /-- R21: the hash state -/
  S : Lanes
  /-- R22: the working words `a` to `h` -/
  work : Working
  /-- R23: the block buffer -/
  B : Block
  /-- R24: the schedule memory -/
  W : Sched
  /-- R25: the adaptive constants, `|AC| = cfg.NBASE` words (`State.Inv` in Safety.lean) -/
  AC : Table
  /-- R33: `inputLen` of H-A -/
  MLEN : Word
  /-- R34: `inputCharLength` of H-A -/
  CLEN : Word
  /-- R35: the string hash code of H-A -/
  MHASH : BitVec 32
  /-- R36: the index of the block about to be compressed -/
  BLKIDX : Word
  /-- R37: the round count -/
  NROUNDS : Word
  /-- R32: `CTRL.IE` -/
  IE : Bool
  /-- R30: `STATUS.DONE` -/
  DONE : Bool
  /-- R28, R30: `STATUS.PHASE` -/
  PHASE : Phase
  /-- R30, R73: `STATUS.VAR` -/
  VAR : Variant
  /-- R262 -/
  ERR_ILL : Bool
  /-- R263 -/
  ERR_SEQ : Bool
  /-- R264 -/
  ERR_BUSY : Bool
  /-- R20, R120: the accepted command word, from its acceptance to its completion; `STATUS.BUSY` is 1
  exactly while it is there (log 7) -/
  inflight : Option Word
  /-- the model's own -/
  host : HostSide
deriving DecidableEq, Repr

/-- R30: `STATUS.BUSY`, 1 from the acceptance of a command to its completion (log 7). -/
def State.busy (s : State) : Bool := s.inflight.isSome

/-- The faults of the machine: none. R11, R260, R267: no data value and no misuse of the interface stops
the core; an error is a sticky flag or an answer on the bus, and the machine goes on (log 9). -/
inductive Fault
deriving DecidableEq, Repr

/-- The refusals of the machine. -/
inductive Refusal
  /-- Raised by `exec`'s arm of an instruction that has no meaning in the model yet; safe. No arm raises
  it. -/
  | notModelled (mnemonic : String)
deriving DecidableEq, Repr

/-- R40, R285, R286: the core of configuration `c` after the reset that takes draw `n`. Every register and
flag is 0 and the phase IDLE; `W` and `AC` are unspecified, so each of their words is a draw (log 4). -/
def State.resetWith (c : Cfg) (n : Nat) (p : HostSide) : State where
  cfg := c
  S := Vector.replicate 8 0
  work := ⟨0, 0, 0, 0, 0, 0, 0, 0⟩
  B := Vector.replicate 16 0
  W := Vector.ofFn fun i => Config.resetW n i.val
  AC := ⟨Config.resetAC n 0, (List.range c.base.rest.length).map fun i => Config.resetAC n (i + 1)⟩
  MLEN := 0
  CLEN := 0
  MHASH := 0
  BLKIDX := 0
  NROUNDS := 0
  IE := false
  DONE := false
  PHASE := .idle
  VAR := .A
  ERR_ILL := false
  ERR_SEQ := false
  ERR_BUSY := false
  inflight := none
  host := p

/-- The machine right after reset (R285): it waits, idle, for the host's first transaction. The tables are
those of the hardware (log 1); no turn is waiting, nothing has been answered, one draw has been taken
(log 6). -/
def State.reset : State :=
  State.resetWith Config.platform 0 ⟨[], none, 1⟩

end Sys2Proof.Machine
end

