-- ==== Sys2Proof/Machine/Primitives.lean ====
section
/-! DEFINITION. The bit primitives and integer laws of 40_primitives.md: pure, total functions of their
arguments. -/

namespace Sys2Proof.Machine

/-- R94: rotate left; `rol x n = rol x (n mod 64)` for every natural `n`. -/
def rol (x : Word) (n : Nat) : Word :=
  if n % 64 = 0 then x else (x <<< (n % 64)) ||| (x >>> (64 - n % 64))

/-- R95: rotate right; by 0 it is the identity. R95 defines amounts 0 to 63; others are reduced modulo 64
(DEDUCED, log 22). -/
def ror (x : Word) (n : Nat) : Word :=
  if n % 64 = 0 then x else (x >>> (n % 64)) ||| (x <<< (64 - n % 64))

/-- R99: the round-parity rotation of H-C, right in even rounds and left in odd ones. -/
def dyn (x : Word) (n r : Nat) : Word :=
  if r % 2 = 0 then ror x n else rol x n

/-- R97: choose. -/
def ch (e f g : Word) : Word := (e &&& f) ^^^ ((~~~e) &&& g)

/-- R98: majority. -/
def maj (a b c : Word) : Word := (a &&& b) ^^^ (a &&& c) ^^^ (b &&& c)

/-- R8: `AV_SH1`; the formula's 29, not the published function's 30 (90_conflicts.md C2). -/
def avSh1 : Nat := 29

/-- R8: `AV_SH2`. -/
def avSh2 : Nat := 27

/-- R8: `AV_SH3`. -/
def avSh3 : Nat := 31

/-- R8: `AV_M1`. -/
def avM1 : Word := 0xBF58476D1CE4E5B9

/-- R8: `AV_M2`. -/
def avM2 : Word := 0x94D049BB133111EB

/-- R8: `GOLD`, the multiplier of H-C's and H-D's finalization. -/
def gold : Word := 0x9E3779B97F4A7C15

/-- R8: `MUL_B`, the multiplier of H-B's finalization. -/
def mulB : Word := 41

/-- `x ^ (x >> n)`, the shift steps of the avalanche mixer. -/
def xorShift (x : Word) (n : Nat) : Word := x ^^^ (x >>> n)

/-- R100: the avalanche mixer, five steps in this order. -/
def avalanche (x : Word) : Word :=
  xorShift (xorShift (xorShift x avSh1 * avM1) avSh2 * avM2) avSh3

/-- R13: byte `k` of a word, byte 0 the most significant. -/
def byteOf (x : Word) (k : Nat) : Byte := (x >>> (8 * (7 - k))).setWidth 8

/-- R58, R101: a word from its eight bytes, the first the most significant. -/
def packBytes (bs : List Byte) : Word :=
  bs.foldl (fun acc y => (acc <<< 8) ||| y.setWidth 64) 0

/-- R101, 90_conflicts.md C1: byte `y` selects entry `y mod SBOX_LEN`. -/
def sboxByte (t : Vector Byte sboxLen) (y : Byte) : Byte :=
  t[y.toNat % sboxLen]'(Nat.mod_lt _ (by decide))

/-- R101: the S-box on a word, byte by byte, big-endian. -/
def sbox (t : Vector Byte sboxLen) (x : Word) : Word :=
  packBytes ((List.range 8).map fun k => sboxByte t (byteOf x k))

/-- R102: bit `i` of the result is bit `63 - i` of `x`. -/
def bitrev64 (x : Word) : Word := x.reverse

/-- R15, R17: lane `k mod 8` of eight words. -/
def lane (v : Lanes) (k : Nat) : Word := v[k % 8]'(Nat.mod_lt _ (by decide))

/-- R15, R17: `v` with lane `k mod 8` replaced. -/
def setLane (v : Lanes) (k : Nat) (x : Word) : Lanes := v.set (k % 8) x (Nat.mod_lt _ (by decide))

/-- R103: the P-box, all reads from the old state. Only entries 0 to 7 of the table are read. -/
def pbox (t : Vector Nat pboxLen) (v : Lanes) (r : Nat) : Lanes :=
  Vector.ofFn fun i : Fin 8 =>
    bitrev64 (lane v (t[i.val]'(Nat.lt_of_lt_of_le i.isLt (by decide)) + 3 * r))

/-- R8: `PERM_A`. -/
def permTableA : Vector Nat 8 := #v[2, 3, 7, 0, 5, 6, 1, 4]

/-- R104: the static permutation of H-A, a gather (decision D26; log 14). -/
def permA (v : Lanes) : Lanes :=
  Vector.ofFn fun i : Fin 8 => lane v permTableA[i.val]

/-- R105: the lane index of H-B's finalization. -/
def pidxB (i : Nat) : Nat := (5 * i + 11) % 8

/-- R106: the one sign extension of the core, of `MHASH`. -/
def sext64 (h : BitVec 32) : Word := h.signExtend 64

/-- R107: the sum of the working words, one word for all lanes of the fold. -/
def sum8 (w : Working) : Word := w.a + w.b + w.c + w.d + w.e + w.f + w.g + w.h

/-- R108: `TH[k] = ceil(e^k)` for `k` = 0 to 44. -/
def lnThresholds : List Nat :=
  [1, 3, 8, 21, 55, 149, 404, 1097, 2981, 8104, 22027, 59875, 162755, 442414, 1202605,
   3269018, 8886111, 24154953, 65659970, 178482301, 485165196, 1318815735, 3584912847, 9744803447,
   26489122130, 72004899338, 195729609429, 532048240602, 1446257064292, 3931334297145,
   10686474581525, 29048849665248, 78962960182681, 214643579785917, 583461742527455,
   1586013452313431, 4311231547115196, 11719142372802612, 31855931757113757, 86593400423993747,
   235385266837019986, 639843493530054950, 1739274941520501048, 4727839468229346562,
   12851600114359308276]

/-- R108: `floor(ln n)` for `1 <= n <= 2^64`: the largest `k` with `TH[k] <= n` (log 15). -/
def flog (n : Nat) : Nat := (lnThresholds.tail.takeWhile (fun t => decide (t ≤ n))).length

end Sys2Proof.Machine
end

