-- ==== Sys2Proof/Machine/Operands.lean ====
section
/-! DEFINITION. The implicit operands of the commands (30_encoding.md R71): the numbers a variant fixes
(00_scope.md R6) and the reads of tables, block and schedule with their index reduction (R17). -/

namespace Sys2Proof.Machine

/-- R17: entry `k mod |t|` of a table. -/
def tableAt (t : Table) (k : Nat) : Word :=
  t.words[k % t.words.length]'(Nat.mod_lt _ (by simp [Table.words]))

/-- R25: an adaptive-constant memory of `cfg.NBASE` words, word `i` being `f i`. -/
def mkTable (c : Cfg) (f : Nat → Word) : Table :=
  ⟨f 0, (List.range c.base.rest.length).map fun i => f (i + 1)⟩

/-- R6, R74: the initial vector of a variant. -/
def ivOf (c : Cfg) : Variant → Lanes
  | .A => c.ivA
  | .B => c.ivB
  | .C => c.ivC
  | .D => c.ivD

/-- R6: `NBLK`, the number of words in a block. -/
def nblk : Variant → Nat
  | .A => 16
  | .B => 16
  | .C => 8
  | .D => 8

/-- R6: `NW`, the number of scheduled words; H-D has no schedule. -/
def nw : Variant → Nat
  | .A => 100
  | .B => 80
  | .C => 64
  | .D => 0

/-- R6: `NPASS`, the number of finalization passes. -/
def npass : Variant → Nat
  | .A => 0
  | .B => 16
  | .C => 12
  | .D => 24

/-- R123: the round count of a variant; H-A's depends on `CLEN`, with `CLEN + 1` a natural number. -/
def roundCount (clen : Word) : Variant → Nat
  | .A => 100 + 50 * flog (clen.toNat + 1)
  | .B => 120
  | .C => 80
  | .D => 80

/-- R15: `B[k]`, the index reduced below 16. -/
def blockWord (b : Block) (k : Nat) : Word := b[k % 16]'(Nat.mod_lt _ (by decide))

/-- R15: `W[k]`, the index reduced below 100. -/
def schedWord (w : Sched) (k : Nat) : Word := w[k % 100]'(Nat.mod_lt _ (by decide))

/-- R15: `W` with word `k` replaced, the index reduced below 100. -/
def setSched (w : Sched) (k : Nat) (x : Word) : Sched := w.set (k % 100) x (Nat.mod_lt _ (by decide))

/-- R22: the working words in register order `WA` to `WH`. -/
def Working.lanes (w : Working) : Lanes := #v[w.a, w.b, w.c, w.d, w.e, w.f, w.g, w.h]

/-- R160: the working words loaded from the hash state in index order. -/
def loadWorking (v : Lanes) : Working :=
  ⟨lane v 0, lane v 1, lane v 2, lane v 3, lane v 4, lane v 5, lane v 6, lane v 7⟩

end Sys2Proof.Machine
end

