-- ==== Sys2Proof/Machine/Flags.lean ====
section
/-! DEFINITION. Status bits, error flags and the interrupt output. The core has no arithmetic condition
codes (10_state.md R38). -/

namespace Sys2Proof.Machine

/-- R28: the code of a phase in `STATUS` bits 4:2. -/
def phaseCode : Phase → BitVec 3
  | .idle => 0
  | .ready => 1
  | .schd => 2
  | .rnds => 3
  | .fin => 4

/-- R30: the `STATUS` word; bits 7 and 63:11 read 0. -/
def statusWord (s : State) : Word :=
  (0#53 ++ BitVec.ofBool s.ERR_BUSY ++ BitVec.ofBool s.ERR_SEQ ++ BitVec.ofBool s.ERR_ILL ++ 0#1
    ++ variantCode s.VAR ++ phaseCode s.PHASE ++ BitVec.ofBool s.DONE ++ BitVec.ofBool s.busy : BitVec 64)

/-- R31: a write to `STATUS` clears `DONE` and the error flags whose written bit is 1; every other written
bit is ignored. -/
def clearStatus (v : Word) (s : State) : State :=
  { s with
    DONE := s.DONE && !v.getLsbD 1
    ERR_ILL := s.ERR_ILL && !v.getLsbD 8
    ERR_SEQ := s.ERR_SEQ && !v.getLsbD 9
    ERR_BUSY := s.ERR_BUSY && !v.getLsbD 10 }

/-- R261: the sticky error flags. -/
inductive Err
  | ill | seq | busy
deriving DecidableEq, Repr

/-- R267: `raise <Error>` sets the sticky flag of that name and changes nothing else: no state is saved, no
mode changes, no vector is read, control goes nowhere. -/
def raiseErr (e : Err) (s : State) : State :=
  match e with
  | .ill => { s with ERR_ILL := true }
  | .seq => { s with ERR_SEQ := true }
  | .busy => { s with ERR_BUSY := true }

/-- R269: the level of the interrupt output. -/
def irq (s : State) : Bool := s.IE && s.DONE

end Sys2Proof.Machine
end

