-- ==== Sys2Proof/Machine/Ops.lean ====
section
/-! DEFINITION. The shared operations: the register window (20_memory.md R51, R65), acceptance and the end
of a command (41_control_commands.md R120), the phase table (30_encoding.md R79), the errors that take the
place of exceptions (60_exceptions.md R267), and the reset input (70_reset_and_hazards.md R285). -/

namespace Sys2Proof.Machine

/-! ### The register window -/

/-- R51: the locations of the window. -/
inductive Reg
  | cmd | status | ctrl | mlen | clen | mhash | blkidx | nrounds
  /-- `S0` to `S7` -/
  | s (i : Fin 8)
  /-- `WA` to `WH` -/
  | work (i : Fin 8)
  /-- `B0` to `B15` -/
  | b (i : Fin 16)
  /-- `W0` to `W99` -/
  | w (i : Fin 100)
deriving DecidableEq, Repr

/-- R51: the location number (offset / 8) of a register. -/
def Reg.number : Reg → Nat
  | .cmd => 0
  | .status => 1
  | .ctrl => 2
  | .mlen => 3
  | .clen => 4
  | .mhash => 5
  | .blkidx => 6
  | .nrounds => 7
  | .s i => 8 + i.val
  | .work i => 16 + i.val
  | .b i => 32 + i.val
  | .w i => 64 + i.val

/-- R51: the byte offset of a register. -/
def offsetOf (r : Reg) : Offset := BitVec.ofNat 12 (8 * r.number)

/-- R51: the register at a location number, or none where the location is reserved. -/
def regAt (k : Nat) : Option Reg :=
  if k = 0 then some .cmd
  else if k = 1 then some .status
  else if k = 2 then some .ctrl
  else if k = 3 then some .mlen
  else if k = 4 then some .clen
  else if k = 5 then some .mhash
  else if k = 6 then some .blkidx
  else if k = 7 then some .nrounds
  else if h : 8 ≤ k ∧ k < 16 then some (.s ⟨k - 8, by omega⟩)
  else if h : 16 ≤ k ∧ k < 24 then some (.work ⟨k - 16, by omega⟩)
  else if h : 32 ≤ k ∧ k < 48 then some (.b ⟨k - 32, by omega⟩)
  else if h : 64 ≤ k ∧ k < 164 then some (.w ⟨k - 64, by omega⟩)
  else none

/-- R53, R54, R65: the register an access reaches; `none` is a bus error (a width other than 64 bits, a
misaligned or a reserved offset). -/
def target (off : Offset) (bytes : Nat) : Option Reg :=
  if bytes = 8 ∧ off.toNat % 8 = 0 then regAt (off.toNat / 8) else none

/-- R65: what a read of a register returns while the core is not busy; unimplemented bits read 0. -/
def readReg (s : State) : Reg → Word
  | .cmd => 0
  | .status => statusWord s
  | .ctrl => (BitVec.ofBool s.IE).setWidth 64
  | .mlen => s.MLEN
  | .clen => s.CLEN
  | .mhash => s.MHASH.setWidth 64
  | .blkidx => s.BLKIDX
  | .nrounds => s.NROUNDS
  | .s i => s.S[i]
  | .work i => s.work.lanes[i]
  | .b i => s.B[i]
  | .w i => s.W[i]

/-- R120: acceptance of command word `c`: `BUSY <- 1`, `DONE <- 0`, `c` is held as the command in flight. -/
def accept (c : Word) (s : State) : State :=
  { s with inflight := some c, DONE := false }

/-- R65: the effect of a write while the core is not busy; read-only locations ignore it (R57). -/
def writeReg (v : Word) (s : State) : Reg → State
  | .cmd => accept v s
  | .status => clearStatus v s
  | .ctrl => { s with IE := v.getLsbD 0 }
  | .mlen => { s with MLEN := v }
  | .clen => { s with CLEN := v }
  | .mhash => { s with MHASH := v.setWidth 32 }
  | .blkidx => { s with BLKIDX := v }
  | .nrounds => s
  | .s i => { s with S := s.S.set i v }
  | .work _ => s
  | .b i => { s with B := s.B.set i v }
  | .w _ => s

/-- The bus answer stands on the host's side (log 6). -/
def answer (a : Response) (s : State) : State :=
  { s with host := { s.host with response := some a } }

/-- R19, U2: the value of the next draw, and the state in which it has been taken. -/
def drawBusyRead (s : State) : State :=
  { s with host := { s.host with draws := s.host.draws + 1
                                 response := some (.data (Config.busyRead s.host.draws)) } }

/-- R62: the locations a read returns exactly even while the core is busy. -/
def readsWhileBusy : Reg → Bool
  | .cmd => true
  | .status => true
  | .ctrl => false
  | .mlen => false
  | .clen => false
  | .mhash => false
  | .blkidx => false
  | .nrounds => false
  | .s _ => false
  | .work _ => false
  | .b _ => false
  | .w _ => false

/-- R65: `MemRead(off, n)`. It changes no state of the core (R55). -/
def memRead (off : Offset) (bytes : Nat) (s : State) : State :=
  match target off bytes with
  | none => answer .busError s
  | some r =>
    if s.busy && !readsWhileBusy r then drawBusyRead s else answer (.data (readReg s r)) s

/-- R65: `MemWrite(off, n, v)`; R266: first the bus error, then BUSY, then the register. -/
def memWrite (off : Offset) (bytes : Nat) (v : Word) (s : State) : State :=
  match target off bytes with
  | none => answer .busError s
  | some r => answer .ok (if s.busy then raiseErr .busy s else writeReg v s r)

/-- R10, R61: one transaction of the host. -/
def access (acc : Access) (s : State) : State :=
  match acc with
  | .read off bytes => memRead off bytes s
  | .write off bytes v => memWrite off bytes v s

/-! ### The frame of every command -/

/-- R79: the phase table: the phase a command ends in, or none where it is out of phase. -/
def phaseNext : Instr → Phase → Option Phase
  | .nop, p => some p
  | .initA _, _ => some .ready
  | .initB _, _ => some .ready
  | .initC _, _ => some .ready
  | .initD _, _ => some .ready
  | .clear, _ => some .idle
  | .sched, p => if p = .ready then some .schd else none
  | .rounds, p => if p = .schd then some .rnds else none
  | .fold, p => if p = .rnds then some .ready else none
  | .block, p => if p = .ready then some .ready else none
  | .final, p => if p = .ready then some .fin else none

/-- R120: the end of every completion: `BUSY <- 0`, `DONE <- 1`, the command in flight gone. -/
def retire (s : State) : State :=
  { s with inflight := none, DONE := true }

/-- R76, R79, R262, R263: the completion of a command in error: the flag is set and nothing else changes
but the end of the command. This is what stands in the place of taking an exception (R267); there is no
return from it (R268): the flag goes by the host's write of 1 (`clearStatus`), by CLEAR or by reset. -/
def errored (e : Err) (s : State) : State := retire (raiseErr e s)

/-- R80, R120: the completion of a legal command: out of phase it raises ERR_SEQ, otherwise the command's
rule runs and the phase becomes what the table says. -/
def runCommand (i : Instr) (effect : State → State) (s : State) : State :=
  match phaseNext i s.PHASE with
  | none => errored .seq s
  | some p => retire { effect s with PHASE := p }

/-! ### The reset input -/

/-- R285, R287: reset at any time; a command in flight is abandoned, the tables do not change, `W` and `AC`
are drawn afresh (R286). The host's side is not the core's and keeps its turns (log 10). -/
def resetInput (s : State) : State :=
  State.resetWith s.cfg s.host.draws { s.host with draws := s.host.draws + 1 }

end Sys2Proof.Machine
end

