-- ==== Sys2Proof/Machine/Control.lean ====
section
/-! DEFINITION. NOP, INIT and CLEAR (41_control_commands.md R121 to R125). -/

namespace Sys2Proof.Machine

/-- R124: adaptive constant `i` of H-A: `cfg.BASE[i] ^ (MLEN * (i + 1)) ^ sext_64(MHASH)`. -/
def adaptive (s : State) (i : Nat) : Word :=
  tableAt s.cfg.base i ^^^ (s.MLEN * BitVec.ofNat 64 (i + 1)) ^^^ sext64 s.MHASH

/-- R122, R74: what INIT of a variant does, but for the phase. -/
def initEffect (v : Variant) (liv : Bool) (s : State) : State :=
  { s with
    VAR := v
    S := if liv then ivOf s.cfg v else s.S
    BLKIDX := 0
    NROUNDS := BitVec.ofNat 64 (roundCount s.CLEN v)
    AC := if v = .A then mkTable s.cfg (adaptive s) else s.AC }

/-- R125, R40: the "after CLEAR" column; `CTRL` and the tables are unchanged. -/
def clearEffect (s : State) : State :=
  { s with
    S := Vector.replicate 8 0
    work := ⟨0, 0, 0, 0, 0, 0, 0, 0⟩
    B := Vector.replicate 16 0
    W := Vector.replicate 100 0
    AC := mkTable s.cfg fun _ => 0
    MLEN := 0
    CLEN := 0
    MHASH := 0
    BLKIDX := 0
    NROUNDS := 0
    VAR := .A
    ERR_ILL := false
    ERR_SEQ := false
    ERR_BUSY := false }

/-- `NOP`, R121: no data register, control register or phase changes. -/
def execNop (s : State) : Host.Outcome State Fault Refusal :=
  .next (runCommand .nop id s)

/-- `INIT.A`, R122. -/
def execInitA (liv : Bool) (s : State) : Host.Outcome State Fault Refusal :=
  .next (runCommand (.initA liv) (initEffect .A liv) s)

/-- `INIT.B`, R122. -/
def execInitB (liv : Bool) (s : State) : Host.Outcome State Fault Refusal :=
  .next (runCommand (.initB liv) (initEffect .B liv) s)

/-- `INIT.C`, R122. -/
def execInitC (liv : Bool) (s : State) : Host.Outcome State Fault Refusal :=
  .next (runCommand (.initC liv) (initEffect .C liv) s)

/-- `INIT.D`, R122. -/
def execInitD (liv : Bool) (s : State) : Host.Outcome State Fault Refusal :=
  .next (runCommand (.initD liv) (initEffect .D liv) s)

/-- `CLEAR`, R125. -/
def execClear (s : State) : Host.Outcome State Fault Refusal :=
  .next (runCommand .clear clearEffect s)

end Sys2Proof.Machine
end

