-- ==== Sys2Proof/Machine/Final.lean ====
section
/-! DEFINITION. The finalization mixer, FINAL (45_final.md R215 to R220). -/

namespace Sys2Proof.Machine

/-- R217 (a): H-B's permute-and-key step, a simultaneous gather, the constant indexed by the destination
lane (decisions D26, D27; log 14). -/
def permuteKeyB (c : Cfg) (v : Lanes) : Lanes :=
  Vector.ofFn fun i : Fin 8 => lane v (pidxB i.val) ^^^ tableAt c.kb i.val

/-- R217 (b), (c), (d): the three statements of lane `i` of H-B, in order, in place. -/
def laneB (c : Cfg) (v : Lanes) (i : Nat) : Lanes :=
  let v1 := setLane v i (lane v i ^^^ (tableAt c.kb i ^^^ lane c.ivB i))
  let v2 := setLane v1 i (lane v1 i ^^^ (rol (lane v1 (i + 1)) (i % 7 + 1) * mulB))
  setLane v2 i (lane v2 i ^^^ ror (lane v2 (i + 3)) (i % 5 + 21))

/-- R217: one pass of H-B; the pass index does not enter (e). -/
def passB (c : Cfg) (v : Lanes) : Lanes :=
  (List.range 8).foldl (laneB c) (permuteKeyB c v)

/-- R217: the 16 passes of H-B. -/
def finalB (c : Cfg) (v : Lanes) : Lanes :=
  (List.range (npass .B)).foldl (fun u _ => passB c u) v

/-- R218: lane `i` of pass `p` of H-C and H-D, in place (decision D28; log 14). -/
def laneCD (p : Nat) (v : Lanes) (i : Nat) : Lanes :=
  setLane v i ((avalanche (lane v i) ^^^ ror (lane v (i + 1)) (p + i)) + lane v (i + 3) * gold)

/-- R218: pass `p` of H-C and H-D, lanes 0 to 7 in order. -/
def passCD (v : Lanes) (p : Nat) : Lanes := (List.range 8).foldl (laneCD p) v

/-- R218, R219: `n` passes of H-C's and H-D's finalization. -/
def finalCD (n : Nat) (v : Lanes) : Lanes := (List.range n).foldl passCD v

/-- R216 to R219: the hash state after FINAL; H-A's is unchanged (R216). -/
def finalLanes (c : Cfg) (var : Variant) (v : Lanes) : Lanes :=
  match var with
  | .A => v
  | .B => finalB c v
  | .C => finalCD (npass .C) v
  | .D => finalCD (npass .D) v

/-- R215: what FINAL does, but for the phase. -/
def finalEffect (s : State) : State := { s with S := finalLanes s.cfg s.VAR s.S }

/-- `FINAL`, R215. -/
def execFinal (s : State) : Host.Outcome State Fault Refusal :=
  .next (runCommand .final finalEffect s)

end Sys2Proof.Machine
end

