-- ==== Sys2Proof/Machine/Rounds.lean ====
section
/-! DEFINITION. The round compressor, ROUNDS (43_rounds.md R160 to R175). -/

namespace Sys2Proof.Machine

/-- R162, R164, R168, R171: the rotations of `e`; H-D's are those of H-B (90_conflicts.md C10). -/
def bigSigma1 (v : Variant) (e : Word) (r : Nat) : Word :=
  match v with
  | .A => ror e (r % 7 + 14) ^^^ rol e (r % 6 + 18) ^^^ ror e (r % 9 + 41)
  | .B => ror e 14 ^^^ rol e 18 ^^^ ror e 41
  | .C => dyn e 14 r ^^^ dyn e 18 r ^^^ dyn e 41 r
  | .D => ror e 14 ^^^ rol e 18 ^^^ ror e 41

/-- R162, R164, R168, R171: the rotations of `a`. -/
def bigSigma0 (v : Variant) (a : Word) (r : Nat) : Word :=
  match v with
  | .A => rol a (r % 8 + 28) ^^^ ror a (r % 5 + 34) ^^^ rol a (r % 11 + 39)
  | .B => ror a 28 ^^^ ror a 34 ^^^ ror a 39
  | .C => dyn a 28 r ^^^ dyn a 34 r ^^^ dyn a 39 r
  | .D => ror a 28 ^^^ ror a 34 ^^^ ror a 39

/-- R165: the starting constant of H-B, complemented in odd rounds. -/
def roundConstB (s : State) (r : Nat) : Word :=
  if r % 2 = 0 then tableAt s.cfg.kb s.BLKIDX.toNat else ~~~ tableAt s.cfg.kb s.BLKIDX.toNat

/-- R163, R165, R169, R172: `K_r`, of the state at the start of the command (log 11 for `AC`). -/
def roundConst (s : State) (r : Nat) : Word :=
  match s.VAR with
  | .A => tableAt s.AC r
  | .B => roundConstB s r
  | .C => tableAt s.cfg.rcc r ^^^ schedWord s.W (r % 64)
  | .D => tableAt s.cfg.rcd r ^^^ blockWord s.B (r % 8)

/-- R169: the message term of H-C, the choice of 90_conflicts.md C3 as one named function. -/
def messageTermC (s : State) (r : Nat) : Word := schedWord s.W (r % 64)

/-- R163, R166, R169, R172: `message_r`. -/
def messageTerm (s : State) (r : Nat) : Word :=
  match s.VAR with
  | .A => schedWord s.W (r % 100)
  | .B => schedWord s.W (r % 80)
  | .C => messageTermC s r
  | .D => sbox s.cfg.sboxD (blockWord s.B (r % 8))

/-- R161: the new working words, all from the old ones. -/
def shiftWorking (w : Working) (t1 t2 : Word) : Working :=
  ⟨t1 + t2, w.a, w.b, w.c, w.d + t1, w.e, w.f, w.g⟩

/-- R170: H-C's mix step, after the simultaneous update. -/
def extraC (c : Cfg) (t1 t2 : Word) (r : Nat) (w : Working) : Working :=
  let mix := dyn t1 13 r ^^^ sbox c.sboxC t2
  { w with e := w.e ^^^ mix, a := w.a ^^^ dyn mix 19 r }

/-- R161, R170: what a variant does to the updated working words. -/
def extra (s : State) (t1 t2 : Word) (r : Nat) (w : Working) : Working :=
  match s.VAR with
  | .A => w
  | .B => w
  | .C => extraC s.cfg t1 t2 r w
  | .D => w

/-- R167, R173: the side effect of round `r` on the hash state; none for H-A and H-C
(90_conflicts.md C4). -/
def side (s : State) (t1 k : Word) (r : Nat) (v : Lanes) : Lanes :=
  match s.VAR with
  | .A => v
  | .B => setLane v r (lane v r ^^^ (t1 ^^^ k))
  | .C => v
  | .D => if r % 10 = 0 then pbox s.cfg.pbox v r else v

/-- What the rounds change: the working words and, for H-B and H-D, the hash state. -/
structure RoundVars where
  work : Working
  S : Lanes
deriving DecidableEq, Repr

/-- R161: `t1` of round `r`. -/
def roundT1 (s : State) (w : Working) (r : Nat) : Word :=
  w.h + bigSigma1 s.VAR w.e r + ch w.e w.f w.g + roundConst s r + messageTerm s r

/-- R161: `t2` of round `r`. -/
def roundT2 (s : State) (w : Working) (r : Nat) : Word :=
  bigSigma0 s.VAR w.a r + maj w.a w.b w.c

/-- R161: round `r`; `s` is the state at the start of the command, of which the rounds change nothing they
read again but what `RoundVars` holds. -/
def oneRound (s : State) (x : RoundVars) (r : Nat) : RoundVars :=
  let t1 := roundT1 s x.work r
  let t2 := roundT2 s x.work r
  { work := extra s t1 t2 r (shiftWorking x.work t1 t2)
    S := side s t1 (roundConst s r) r x.S }

/-- R160: the load of the working words, then rounds 0 to `n - 1`. -/
def runRounds (s : State) (n : Nat) : RoundVars :=
  (List.range n).foldl (oneRound s) ⟨loadWorking s.S, s.S⟩

/-- R160: what ROUNDS does, but for the phase. -/
def roundsEffect (s : State) : State :=
  let x := runRounds s s.NROUNDS.toNat
  { s with work := x.work, S := x.S }

/-- `ROUNDS`, R160. -/
def execRounds (s : State) : Host.Outcome State Fault Refusal :=
  .next (runCommand .rounds roundsEffect s)

end Sys2Proof.Machine
end

