-- ==== Sys2Proof/Machine/Schedule.lean ====
section
/-! DEFINITION. The message scheduler, SCHED (42_schedule.md R140 to R145). -/

namespace Sys2Proof.Machine

/-- R141: `s0` of H-A, of the word 15 places back. -/
def smallSigma0A (i : Nat) (x : Word) : Word :=
  ror x (i % 5 + 1) ^^^ rol x (i % 8 + 7) ^^^ ror x (i % 10 + 13)

/-- R141: `s1` of H-A, of the word 2 places back. -/
def smallSigma1A (i : Nat) (y : Word) : Word :=
  rol y (i % 3 + 19) ^^^ ror y (i % 9 + 23) ^^^ (y >>> 6)

/-- R142: `s0` of H-B. -/
def smallSigma0B (x : Word) : Word := ror x 1 ^^^ ror x 8 ^^^ (x >>> 7)

/-- R142: `s1` of H-B; its middle term rotates left. -/
def smallSigma1B (y : Word) : Word := ror y 19 ^^^ rol y 3 ^^^ (y >>> 10)

/-- R143 (a): `s0` of H-C. -/
def smallSigma0C (x : Word) : Word := ror x 1 ^^^ ror x 8 ^^^ (x >>> 7)

/-- R143: `s1` of H-C, verbatim with 61 (90_conflicts.md C6). -/
def smallSigma1C (y : Word) : Word := ror y 19 ^^^ ror y 61 ^^^ (y >>> 6)

/-- R145: the sum every schedule word is made of: the words 16 and 7 places back and the two sigmas of the
words 15 and 2 places back. -/
def schedSum (w : Sched) (i : Nat) (s0 s1 : Word → Word) : Word :=
  schedWord w (i - 16) + s0 (schedWord w (i - 15)) + schedWord w (i - 7) + s1 (schedWord w (i - 2))

/-- R145: word `k` of the block written to `W[k]`. -/
def loadStep (b : Block) (w : Sched) (k : Nat) : Sched := setSched w k (blockWord b k)

/-- R143 (c): word `k` of `W` set to 0. -/
def zeroStep (w : Sched) (k : Nat) : Sched := setSched w k 0

/-- R141: one computed word of H-A. -/
def stepA (w : Sched) (i : Nat) : Sched :=
  setSched w i (schedSum w i (smallSigma0A i) (smallSigma1A i))

/-- R142: one computed word of H-B. -/
def stepB (w : Sched) (i : Nat) : Sched :=
  setSched w i (schedSum w i smallSigma0B smallSigma1B)

/-- R143 (d): one computed word of H-C; the avalanche result is what is stored. -/
def stepC (w : Sched) (i : Nat) : Sched :=
  setSched w i (avalanche (schedSum w i smallSigma0C smallSigma1C))

/-- R141: the schedule of H-A, 100 words. -/
def scheduleA (b : Block) (w : Sched) : Sched :=
  (List.range' 16 84).foldl stepA ((List.range 16).foldl (loadStep b) w)

/-- R142: the schedule of H-B, 80 words; `W[80..99]` are not written. -/
def scheduleB (b : Block) (w : Sched) : Sched :=
  (List.range' 16 64).foldl stepB ((List.range 16).foldl (loadStep b) w)

/-- R143: the schedule of H-C, 64 words from 8; `W[64..99]` are not written. -/
def scheduleC (b : Block) (w : Sched) : Sched :=
  (List.range' 16 48).foldl stepC
    ((List.range' 8 8).foldl zeroStep ((List.range 8).foldl (loadStep b) w))

/-- R140 to R144: the schedule memory after SCHED; H-D writes nothing (R144). -/
def schedule (v : Variant) (b : Block) (w : Sched) : Sched :=
  match v with
  | .A => scheduleA b w
  | .B => scheduleB b w
  | .C => scheduleC b w
  | .D => w

/-- R140: what SCHED does, but for the phase. -/
def schedEffect (s : State) : State := { s with W := schedule s.VAR s.B s.W }

/-- `SCHED`, R140. -/
def execSched (s : State) : Host.Outcome State Fault Refusal :=
  .next (runCommand .sched schedEffect s)

end Sys2Proof.Machine
end

