-- ==== Sys2Proof/Machine/Fold.lean ====
section
/-! DEFINITION. The state folder FOLD and the whole-block compression BLOCK (44_fold_block.md R200 to
R206). -/

namespace Sys2Proof.Machine

/-- R201: the same word `t` into each of the eight state words. -/
def sumFold (w : Working) (v : Lanes) : Lanes :=
  Vector.ofFn fun i : Fin 8 => v[i] ^^^ sum8 w

/-- R202: the fold of H-D, as one named function: the sum fold, no permutation (decision D25; log 14). -/
def foldD (w : Working) (v : Lanes) : Lanes := sumFold w v

/-- R201 to R203, R206: the hash state after the fold. -/
def foldLanes (var : Variant) (w : Working) (v : Lanes) : Lanes :=
  match var with
  | .A => permA (sumFold w v)
  | .B => sumFold w v
  | .C => sumFold w v
  | .D => foldD w v

/-- R200, R204: what FOLD does, but for the phase. -/
def foldEffect (s : State) : State :=
  { s with S := foldLanes s.VAR s.work s.S, BLKIDX := s.BLKIDX + 1 }

/-- R205: what BLOCK does, but for the phase: the state change of SCHED, then of ROUNDS, then of FOLD. -/
def blockEffect (s : State) : State := foldEffect (roundsEffect (schedEffect s))

/-- `FOLD`, R200. -/
def execFold (s : State) : Host.Outcome State Fault Refusal :=
  .next (runCommand .fold foldEffect s)

/-- `BLOCK`, R205. -/
def execBlock (s : State) : Host.Outcome State Fault Refusal :=
  .next (runCommand .block blockEffect s)

end Sys2Proof.Machine
end

