-- ==== Sys2Proof/Machine/Dispatch.lean ====
section
/-! DEFINITION. The completion of a decoded command (41_control_commands.md R120), one arm per command. -/

namespace Sys2Proof.Machine

def exec (i : Instr) (s : State) : Host.Outcome State Fault Refusal :=
  match i with
  | .nop => Sys2Proof.Machine.execNop s
  | .initA liv => Sys2Proof.Machine.execInitA liv s
  | .initB liv => Sys2Proof.Machine.execInitB liv s
  | .initC liv => Sys2Proof.Machine.execInitC liv s
  | .initD liv => Sys2Proof.Machine.execInitD liv s
  | .sched => Sys2Proof.Machine.execSched s
  | .rounds => Sys2Proof.Machine.execRounds s
  | .fold => Sys2Proof.Machine.execFold s
  | .block => Sys2Proof.Machine.execBlock s
  | .final => Sys2Proof.Machine.execFinal s
  | .clear => Sys2Proof.Machine.execClear s

end Sys2Proof.Machine
end

