-- ==== Sys2Proof/Machine/Completion.lean ====
section
/-! DEFINITION. The agents' turns: the completion of the command in flight (41_control_commands.md R120), a
transaction of the host, the reset input; and how a command word comes to be in flight. -/

namespace Sys2Proof.Machine

/-- R120: `complete()`. Enabled exactly when a command is in flight; otherwise the core is idle and holds its
registers (R275). R80: first the encoding check, then the command (whose own first check is the phase). -/
def complete (s : State) : Host.Outcome State Fault Refusal :=
  match s.inflight with
  | none => .next s
  | some c =>
    match decode c with
    | .error _ => .next (errored .ill s)
    | .ok i => exec i s

/-- R10: what a turn does. -/
def takeTurn (t : Turn) (s : State) : Host.Outcome State Fault Refusal :=
  match t with
  | .host acc => .next (access acc s)
  | .core => complete s
  | .reset => .next (resetInput s)

/-- `s` with the turns that remain. -/
def withTurns (ts : List Turn) (s : State) : State :=
  { s with host := { s.host with turns := ts } }

/-- R29, R120: the state in which command word `c` has been accepted and the core is the next to act. -/
def withCommand (c : Word) (s : State) : State :=
  withTurns (.core :: s.host.turns) (accept c s)

end Sys2Proof.Machine
end

