-- ==== Sys2Proof/Machine/Step.lean ====
section
/-! DEFINITION. One step of the machine: the agent whose turn it is acts once. -/

namespace Sys2Proof.Machine

/-- R10, R61: the first turn waiting is taken; when none waits, the core completes the command in flight, or,
with none in flight, waits (R285). DESIGN CHOICE (log 2): the order of the turns is data. -/
def step (s : State) : Host.Outcome State Fault Refusal :=
  match s.host.turns with
  | [] => complete s
  | t :: ts => takeTurn t (withTurns ts s)

/-- `s` with the command word of `nbits` bits `w` in flight and the core to act next (log 3): the core fetches
nothing (R27), its next command is the accepted word. -/
def State.withFetchWord (s : State) (nbits w : Nat) : State :=
  withCommand (BitVec.ofNat 64 (w % 2 ^ nbits)) s

end Sys2Proof.Machine
end

