-- ==== Sys2Proof/Machine/Protocol.lean ====
section
/-! DEFINITION. The host's duties of 49_host_protocol.md as plain functions: padding, block assembly, hash
code, initial state, hex digits. They constrain the core in nothing (R235) and the step never calls them;
they are here so that a whole message can be formed on top of the core's rules. Open points of the host's
side are arguments (log 16). -/

namespace Sys2Proof.Machine

/-- R238: the order of the first P64x2 footer, `host.P64_FOOTER1_ORDER`; the spec takes `lsbFirst`. -/
inductive FooterOrder
  | lsbFirst | msbFirst
deriving DecidableEq, Repr

/-- R237, R238: the padding modes; P128 for H-A and H-B, P64x2 for H-C and H-D. -/
inductive PadMode
  | p128 | p64x2
deriving DecidableEq, Repr

/-- R237, R238: the padding mode of a variant. -/
def padModeOf : Variant → PadMode
  | .A => .p128
  | .B => .p128
  | .C => .p64x2
  | .D => .p64x2

/-- R237, R238: the block size of a padding mode in bytes. -/
def PadMode.blockBytes : PadMode → Nat
  | .p128 => 128
  | .p64x2 => 64

/-- R237, R238: the size of the footer in bytes. -/
def PadMode.footerBytes : PadMode → Nat
  | .p128 => 8
  | .p64x2 => 16

/-- R237: the bit length of the message before padding, modulo 2^64. -/
def bitLength (l : Nat) : Word := BitVec.ofNat 64 (8 * l)

/-- R237, R238: the least `z` with `(l + 1 + z + footer) mod block = 0`. -/
def padZeros (m : PadMode) (l : Nat) : Nat :=
  (m.blockBytes - (l + 1 + m.footerBytes) % m.blockBytes) % m.blockBytes

/-- The eight bytes of a word, the most significant first. -/
def bytesMsbFirst (x : Word) : List Byte := (List.range 8).map fun j => byteOf x j

/-- The eight bytes of a word, the least significant first. -/
def bytesLsbFirst (x : Word) : List Byte := (List.range 8).map fun j => byteOf x (7 - j)

/-- R237 (90_conflicts.md C5), R238: the footer. -/
def footer (m : PadMode) (o : FooterOrder) (l : Nat) : List Byte :=
  match m with
  | .p128 => bytesMsbFirst (bitLength l)
  | .p64x2 =>
    (match o with
      | .lsbFirst => bytesLsbFirst (bitLength l)
      | .msbFirst => bytesMsbFirst (bitLength l)) ++ bytesMsbFirst (~~~ bitLength l)

/-- R237, R238: the padded byte string. -/
def padded (m : PadMode) (o : FooterOrder) (msg : List Byte) : List Byte :=
  msg ++ [0x80] ++ List.replicate (padZeros m msg.length) 0 ++ footer m o msg.length

/-- R59, R240: word `k` of a byte string, big-endian. -/
def wordOfBytes (bs : List Byte) (k : Nat) : Word := packBytes ((bs.drop (8 * k)).take 8)

/-- R240: block `j` of a padded string, as words. -/
def blockOfBytes (m : PadMode) (bs : List Byte) (j : Nat) : List Word :=
  (List.range (m.blockBytes / 8)).map fun k => wordOfBytes bs (j * (m.blockBytes / 8) + k)

/-- R240: the blocks of a padded string, in order. -/
def blocksOfBytes (m : PadMode) (bs : List Byte) : List (List Word) :=
  (List.range (bs.length / m.blockBytes)).map (blockOfBytes m bs)

/-- R239: what `host.DFB` names for a length: the eight words of the extra block and its position, the number
of blocks that go before it; a position past the end puts it last (log 16). -/
structure ExtraBlock where
  words : Vector Word 8
  position : Nat
deriving DecidableEq, Repr

/-- R239, 90_conflicts.md C9: the extra block, put at its position. -/
def insertBlock (e : ExtraBlock) (bl : List (List Word)) : List (List Word) :=
  bl.take e.position ++ [e.words.toList] ++ bl.drop e.position

/-- R239, 90_conflicts.md C9: a P64x2 message whose length is a multiple of 64 has one more block, the one that
the open parameter `host.DFB` names for the length. DEDUCED (log 16): the empty message has none, as the vectors
V42 and V43 count it. -/
def withExtraBlock (dfb : Nat → ExtraBlock) (l : Nat) (bl : List (List Word)) : List (List Word) :=
  if l ≠ 0 ∧ l % PadMode.p64x2.blockBytes = 0 then insertBlock (dfb l) bl else bl

/-- R237 to R240: the blocks the host gives the core for a message. -/
def messageBlocks (v : Variant) (o : FooterOrder) (dfb : Nat → ExtraBlock)
    (msg : List Byte) : List (List Word) :=
  let bl := blocksOfBytes (padModeOf v) (padded (padModeOf v) o msg)
  match padModeOf v with
  | .p128 => bl
  | .p64x2 => withExtraBlock dfb msg.length bl

/-- R242: the string hash code of a text given by its UTF-16 code units (log 17). -/
def hashCode (units : List (BitVec 16)) : BitVec 32 :=
  units.foldl (fun h u => 31 * h + u.setWidth 32) 0

/-- R241: word `i` of the initial hash state, the constant part mixed with `host.LENMIX`. -/
def initialWord (c : Cfg) (v : Variant) (lenmix : Nat → Word) (i : Nat) : Word :=
  lane (ivOf c v) i ^^^ lenmix i

/-- R245: one lowercase hexadecimal digit. -/
def hexDigit (n : Nat) : Char :=
  ['0', '1', '2', '3', '4', '5', '6', '7', '8', '9', 'a', 'b', 'c', 'd', 'e', 'f'].getD n '0'

/-- R245: the 16 digits of a word, most significant first. -/
def hexWord (x : Word) : List Char :=
  (List.range 16).map fun j => hexDigit ((x >>> (4 * (15 - j))).toNat % 16)

/-- R220, R245: the 128 digits of the eight digest words, in order. -/
def hexDigits (v : Lanes) : List Char := v.toList.flatMap hexWord

/-- R246: the digest string of a variant; H-A's carries the suffix. -/
def digestChars (var : Variant) (v : Lanes) : List Char :=
  match var with
  | .A => hexDigits v ++ ['D', 'a', 'H', 'o']
  | .B => hexDigits v
  | .C => hexDigits v
  | .D => hexDigits v

end Sys2Proof.Machine
end

