-- ==== Sys2Proof/Machine/Script.lean ====
section
/-! DEFINITION. The host's script language (30_encoding.md R81, R82): its statements, the expansion of its
pseudo-instructions, WAIT as the loop of the rule, the turns a script stands for under every pace of the core, and
the message flow of 49_host_protocol.md R244. Scripts are data for `host.turns`; the core knows nothing of them. -/

namespace Sys2Proof.Machine

/-- R81, R82: the statements of the script and its pseudo-instructions. -/
inductive Stmt
  /-- `WR reg, value` -/
  | wr (r : Reg) (v : Word)
  /-- `RD reg` -/
  | rd (r : Reg)
  /-- a command: a write of its word to `CMD` -/
  | cmd (i : Instr)
  /-- `WAIT` -/
  | wait
  /-- `ACK` -/
  | ack
  /-- `LDBLK v0, ..., v(n-1)` -/
  | ldblk (vs : List Word)
  /-- `LDS v0, ..., v7` -/
  | lds (vs : List Word)
  /-- `RDS` -/
  | rds
  /-- `HASHBLK v0, ..., v(n-1)` -/
  | hashblk (vs : List Word)
  /-- `STEPBLK v0, ..., v(n-1)` -/
  | stepblk (vs : List Word)
deriving DecidableEq, Repr

/-- What a statement expands to: bus transactions and the loop WAIT. -/
inductive Act
  | bus (acc : Access)
  | wait
deriving DecidableEq, Repr

/-- R81: `MemWrite(offset(reg), 8, value)`. -/
def wrAct (r : Reg) (v : Word) : Act := .bus (.write (offsetOf r) 8 v)

/-- R81: `MemRead(offset(reg), 8)`. -/
def rdAct (r : Reg) : Act := .bus (.read (offsetOf r) 8)

/-- R81: a command statement. -/
def cmdAct (i : Instr) : Act := wrAct .cmd (encode i)

/-- R82: `LDBLK`. -/
def ldblkActs (vs : List Word) : List Act :=
  vs.mapIdx fun i v => wrAct (.b (Fin.ofNat 16 i)) v

/-- R82: `LDS`. -/
def ldsActs (vs : List Word) : List Act :=
  vs.mapIdx fun i v => wrAct (.s (Fin.ofNat 8 i)) v

/-- R81, R82: the expansion of a statement. -/
def expand : Stmt → List Act
  | .wr r v => [wrAct r v]
  | .rd r => [rdAct r]
  | .cmd i => [cmdAct i]
  | .wait => [.wait]
  | .ack => [wrAct .status 0x702]
  | .ldblk vs => ldblkActs vs
  | .lds vs => ldsActs vs
  | .rds => (List.range 8).map fun i => rdAct (.s (Fin.ofNat 8 i))
  | .hashblk vs => ldblkActs vs ++ [cmdAct .block, .wait]
  | .stepblk vs => ldblkActs vs ++ [cmdAct .sched, .wait, cmdAct .rounds, .wait, cmdAct .fold, .wait]

/-! ### WAIT -/

/-- R82: the poll of WAIT, `RD STATUS`. -/
def pollAccess : Access := .read (offsetOf .status) 8

/-- R82: one poll. -/
def poll (s : State) : State := access pollAccess s

/-- R82: whether the latest answer is a word whose bit 0 (`BUSY`) reads 1. -/
def answeredBusy (s : State) : Bool :=
  match s.host.response with
  | some (.data x) => x.getLsbD 0
  | some .ok => false
  | some .busError => false
  | none => false

/-- R82: `WAIT`, `RD STATUS` again and again until bit 0 reads 0. The argument is the pace of the core, which the
spec leaves open (R120, R296): how many polls can fall before the completion of the command in flight (log 18). -/
def waitLoop : Nat → State → Host.Outcome State Fault Refusal
  | 0, s =>
    match complete s with
    | .next t => .next (poll t)
    | .fault f => .fault f
    | .refused r => .refused r
  | n + 1, s => if answeredBusy (poll s) then waitLoop n (poll s) else .next (poll s)

/-- R82: the turns of `WAIT`. With a command pending, `n` polls that read BUSY 1, the completion, and the poll that
reads 0; with none pending, the one poll that reads 0 (log 18). -/
def waitTurns (pending : Bool) (n : Nat) : List Turn :=
  if pending then List.replicate n (.host pollAccess) ++ [.core, .host pollAccess] else [.host pollAccess]

/-! ### The turns of a script -/

/-- R120, R296: the pace of the core along a script, which the spec leaves open and which is an argument here
(log 18). -/
structure Pace where
  /-- whether a command pending before bus transaction `k` of the script completes before it -/
  early : Nat → Bool
  /-- how many polls of the WAIT that is act `k` of the script read BUSY 1 -/
  polls : Nat → Nat

/-- R29, R120: whether a transaction is a write to CMD, after which a command is in flight: the one it hands over,
or, were it dropped (R63), the one that was there. -/
def startsCommand : Access → Bool
  | .read _ _ => false
  | .write off bytes _ => target off bytes == some .cmd

/-- The completion of the pending command, where it comes early. -/
def earlyTurns (early : Bool) : List Turn := if early then [.core] else []

/-- R81, R82: the turns of a list of acts, from act number `k` on; `pending` says whether a command is in
flight. -/
def actTurns (c : Pace) : Nat → Bool → List Act → List Turn
  | _, _, [] => []
  | k, pending, .bus acc :: as =>
    earlyTurns (pending && c.early k) ++
      .host acc :: actTurns c (k + 1) (startsCommand acc || (pending && !c.early k)) as
  | k, pending, .wait :: as => waitTurns pending (c.polls k) ++ actTurns c (k + 1) false as

/-- The turns of a script begun while no command is in flight, for a pace of the core. -/
def scriptTurns (c : Pace) (p : List Stmt) : List Turn := actTurns c 0 false (p.flatMap expand)

/-- R243, R244: the parameters of a message, written by the host for H-A only. -/
def paramStmts (v : Variant) (mlen clen : Word) (mhash : BitVec 32) : List Stmt :=
  match v with
  | .A => [.wr .clen clen, .wr .mlen mlen, .wr .mhash (mhash.setWidth 64)]
  | .B => []
  | .C => []
  | .D => []

/-- R241: the writes of the initial hash state after `INIT.v liv`, of the words whose mix is not zero and of no
other. DESIGN CHOICE (log 23): R244 has them as one optional `LDS` of all eight words; INIT has loaded the words
left out, so the state after either form is the same. -/
def stateStmts (c : Cfg) (v : Variant) (lenmix : Nat → Word) : List Stmt :=
  ((List.range 8).filter fun i => lenmix i != 0).map fun i =>
    .wr (.s (Fin.ofNat 8 i)) (initialWord c v lenmix i)

/-- What R244 lets the host choose in the flow of a message; both are arguments of the flow (log 23). -/
structure FlowChoice where
  /-- whether block `k` goes by `STEPBLK`; otherwise by `HASHBLK` -/
  stepwise : Nat → Bool
  /-- whether the optional `CLEAR` and its `WAIT` end the message -/
  clear : Bool

/-- R244: block `k` of a message, by `HASHBLK` or by `STEPBLK` as the host chooses (log 23). -/
def blockStmt (f : FlowChoice) (k : Nat) (ws : List Word) : Stmt :=
  if f.stepwise k then .stepblk ws else .hashblk ws

/-- R244: the optional end of a message (log 23). -/
def clearStmts (f : FlowChoice) : List Stmt :=
  if f.clear then [.cmd .clear, .wait] else []

/-- R244: one message as a script: parameters, `INIT.v liv`, the mixed words of the initial state, the blocks in
order, `FINAL`, the reads of the digest words, the optional `CLEAR`. The points R244 leaves to the host, `HASHBLK`
or `STEPBLK` and the closing `CLEAR`, are the argument `f`; the form of the state writes is log 23. -/
def messageScript (f : FlowChoice) (c : Cfg) (v : Variant) (mlen clen : Word) (mhash : BitVec 32)
    (lenmix : Nat → Word) (bl : List (List Word)) : List Stmt :=
  paramStmts v mlen clen mhash ++ [.cmd (initOf v true), .wait] ++ stateStmts c v lenmix
    ++ bl.mapIdx (blockStmt f) ++ [.cmd .final, .wait, .rds] ++ clearStmts f

end Sys2Proof.Machine
end

