-- ==== Sys2Proof/Safety.lean ====
section
/-! DEFINITION. What counts as a good state and a safe run, in the terms the statements use. -/

namespace Sys2Proof.Machine

/-- R37, R123: the round counts INIT of a variant can leave; between 80 and 2300. -/
def legalRoundCount (v : Variant) (n : Word) : Prop :=
  match v with
  | .A => ∃ k, k ≤ 44 ∧ n.toNat = 100 + 50 * k
  | .B => n = 120
  | .C => n = 80
  | .D => n = 80

/-- The invariant of the machine: it holds at reset and every step keeps it. -/
structure State.Inv (s : State) : Prop where
  /-- R25: `AC` has `cfg.NBASE` words -/
  acLength : s.AC.len = s.cfg.base.len
  /-- R30, R62: while a command is in flight `DONE` is 0 -/
  busyNotDone : s.busy = true → s.DONE = false
  /-- R40: with no message open the round count is 0 and the variant A -/
  idleClean : s.PHASE = .idle → s.NROUNDS = 0 ∧ s.VAR = .A
  /-- R123, R295: with a message open the round count is one of its variant's -/
  openRounds : s.PHASE ≠ .idle → legalRoundCount s.VAR s.NROUNDS

/-- R249, U1: two states that can differ only in what the spec leaves unspecified: the words of `W` and `AC`
no command may read before writing them, the answers on the bus, and the number of draws taken. -/
structure SameButUnspecified (s t : State) : Prop where
  /-- every other piece of state is the same -/
  rest : { s with W := t.W, AC := t.AC, host := t.host } = t
  /-- the same turns are to come -/
  turns : s.host.turns = t.host.turns
  /-- in phase SCHD the words the variant's rounds read are the same -/
  schedule : s.PHASE = .schd → ∀ k, k < nw s.VAR → schedWord s.W k = schedWord t.W k
  /-- with an H-A message open the adaptive constants are the same -/
  adaptive : s.PHASE ≠ .idle → s.VAR = .A → s.AC = t.AC

/-- The next agent to act is the core: its turn is first, or no turn waits (log 2). -/
def coreActsNext (s : State) : Bool :=
  match s.host.turns with
  | [] => true
  | .core :: _ => true
  | .host _ :: _ => false
  | .reset :: _ => false

/-- `s` with its first turn gone. -/
def popTurn (s : State) : State := withTurns s.host.turns.tail s

end Sys2Proof.Machine
end

