-- ==== Sys2Proof/Certificates/Slice0/Obligations.lean ====
section
/-! DEFINITION. The statements for the provers. Rotations are written with the library's `rotateLeft` and
`rotateRight`, choose and majority with their formulas, so that a statement says what the rule says without
the model's own primitive; the frame of a command is said by giving the whole next state. -/

open Sys2Proof Sys2Proof.Machine

namespace Sys2Proof.Machine

/-- R161 as a function of the rule's ingredients: the working words after a round whose rotations of `e` and
`a` are `s1` and `s0`, whose constant is `k` and whose message term is `m`. -/
def roundT1Of (s1 k m : Word) (x : Working) : Word :=
  x.h + s1 + ((x.e &&& x.f) ^^^ ((~~~x.e) &&& x.g)) + k + m

/-- R161: `t2` of a round. -/
def roundT2Of (s0 : Word) (x : Working) : Word :=
  s0 + ((x.a &&& x.b) ^^^ (x.a &&& x.c) ^^^ (x.b &&& x.c))

/-- R161: `h=g; g=f; f=e; e=d+t1; d=c; c=b; b=a; a=t1+t2`. -/
def shiftOf (t1 t2 : Word) (x : Working) : Working :=
  ⟨t1 + t2, x.a, x.b, x.c, x.d + t1, x.e, x.f, x.g⟩

/-- R164, R171: the fixed rotations of `e` of H-B and H-D. -/
def fixedS1 (e : Word) : Word := e.rotateRight 14 ^^^ e.rotateLeft 18 ^^^ e.rotateRight 41

/-- R164, R171: the fixed rotations of `a` of H-B and H-D. -/
def fixedS0 (a : Word) : Word := a.rotateRight 28 ^^^ a.rotateRight 34 ^^^ a.rotateRight 39

/-- R99: right in even rounds, left in odd ones. -/
def parityRotate (r : Nat) (x : Word) (n : Nat) : Word :=
  if r % 2 = 0 then x.rotateRight n else x.rotateLeft n

/-- R160: `a <- S[0]`, ..., `h <- S[7]`. -/
def loadedFrom (v : Lanes) : Working := ⟨v[0], v[1], v[2], v[3], v[4], v[5], v[6], v[7]⟩

/-- R218: `v'` is pass `p` of H-C's and H-D's finalization of `v`: lane `i` reads lanes `i + 1` and `i + 3` as
they are at that moment, not yet updated below lane 8 and updated in this pass after the wrap. -/
def isPassCD (p : Nat) (v v' : Lanes) : Prop :=
  let x : Nat → Word := fun j => if j < 8 then v[j % 8]'(by omega) else v'[j % 8]'(by omega)
  ∀ i (h : i < 8), v'[i] =
    (avalanche v[i] ^^^ (x (i + 1)).rotateRight (p + i)) + x (i + 3) * 0x9E3779B97F4A7C15

/-- R217: `v'` is a pass of H-B's finalization of `v`: the permuted and keyed copy, then the lanes in order, in
place, three statements each. -/
def isPassB (c : Cfg) (v v' : Lanes) : Prop :=
  let kb : Nat → Word := fun i => c.kb.words.getD (i % c.kb.len) 0
  let t : Nat → Word := fun i => v[(5 * i + 11) % 8]'(by omega) ^^^ kb i
  let x : Nat → Word := fun j => if j < 8 then t j else v'[j % 8]'(by omega)
  ∀ i (h : i < 8), v'[i] =
    (t i ^^^ (kb i ^^^ c.ivB[i])) ^^^ ((x (i + 1)).rotateLeft (i % 7 + 1) * 41)
      ^^^ (x (i + 3)).rotateRight (i % 5 + 21)

/-- R76, R262: the completion of word `c`, in every state: ERR_ILL is set and nothing else changes but the end
of the command. -/
def raisesErrIll (c : Word) : Prop :=
  ∀ s : State, s.inflight = some c →
    complete s = .next { s with ERR_ILL := true, inflight := none, DONE := true }

/-- The host side after an answer on the bus. -/
def answered (a : Response) (s : State) : State := { s with host := { s.host with response := some a } }

end Sys2Proof.Machine

/-! ### Decoding -/

/-- R72, R262, R81: a few words written out, and the commands they stand for. -/
def Obligations.SampleWordsDecode : Prop :=
  decode 0x000 = .ok .nop ∧ decode 0x101 = .ok (.initA true) ∧ decode 0x031 = .ok (.initD false)
    ∧ decode 0x003 = .ok .rounds ∧ decode 0x007 = .ok .clear

/-- R76: every one of the `2^64` words is the word of exactly one command or of none; no bit is dropped. -/
def Obligations.DecodeEncodeAgree : Prop :=
  ∀ (c : Word) (i : Instr), i.wf = true → (decode c = .ok i ↔ encode i = c)

/-- R75: the decoder accepts exactly the legal encodings. -/
def Obligations.DecodesExactlyLegalWords : Prop :=
  ∀ c : Word, (∃ i, decode c = .ok i) ↔
    (c.extractLsb' 9 55 = 0 ∧ c.extractLsb' 6 2 = 0 ∧ c.toNat % 16 ≤ 7
      ∧ (c.toNat % 16 ≠ 1 → c.extractLsb' 4 2 = 0 ∧ c.getLsbD 8 = false))

/-- R262: the 15 legal words. -/
def Obligations.FifteenLegalWords : Prop :=
  ∀ c : Word, (∃ i, decode c = .ok i) ↔
    c ∈ ([0x000, 0x001, 0x011, 0x021, 0x031, 0x101, 0x111, 0x121, 0x131,
          0x002, 0x003, 0x004, 0x005, 0x006, 0x007] : List Word)

/-! ### The frame of every command -/

/-- R80, R120: when the core is the next to act, the step is the completion of the command in flight, its turn
gone; and where the word in flight decodes to a command, it is that command at that state. That turns are data is
the model's choice (log 2). -/
def Obligations.StepRunsDecodedCommand : Prop :=
  (∀ s : State, coreActsNext s = true → step s = complete (popTurn s)) ∧
  ∀ (s : State) (c : Word) (i : Instr), s.inflight = some c → decode c = .ok i →
    (∀ ts, s.host.turns = .core :: ts →
      step s = exec i { s with host := { s.host with turns := ts } }) ∧
    (s.host.turns = [] → step s = exec i s)

/-- R76: the completion of a word that is the word of no command sets ERR_ILL and ends, and changes nothing else,
whatever the phase. -/
def Obligations.IllegalWordSetsErrIllOnly : Prop :=
  ∀ c : Word, (∀ i, encode i ≠ c) → raisesErrIll c

/-- R79, R263: the phase table, cell by cell: a command in a phase the table allows ends in the phase of its cell and
raises no ERR_SEQ; out of phase it sets ERR_SEQ and ends, and changes nothing else. -/
def Obligations.PhaseTableGovernsCommands : Prop :=
  ∀ s : State,
    let ends (i : Instr) (p : Phase) : Prop :=
      ∃ t, exec i s = .next t ∧ t.PHASE = p ∧ (t.ERR_SEQ = true → s.ERR_SEQ = true)
    let errs (i : Instr) : Prop :=
      exec i s = .next { s with ERR_SEQ := true, inflight := none, DONE := true }
    ends .nop s.PHASE ∧ ends .clear .idle ∧ (∀ v liv, ends (initOf v liv) .ready) ∧
    (if s.PHASE = .ready then ends .sched .schd else errs .sched) ∧
    (if s.PHASE = .schd then ends .rounds .rnds else errs .rounds) ∧
    (if s.PHASE = .rnds then ends .fold .ready else errs .fold) ∧
    (if s.PHASE = .ready then ends .block .ready else errs .block) ∧
    (if s.PHASE = .ready then ends .final .fin else errs .final)

/-- R120: a write of a command's word to CMD while idle, then the core's turn: two steps, the second of which is
the command on the state at acceptance. The two turns as data are the model's choice (log 2). -/
def Obligations.AcceptedCommandRunsNext : Prop :=
  ∀ (s : State) (i : Instr) (ts : List Turn), s.inflight = none →
    s.host.turns = .host (.write 0x000 8 (encode i)) :: .core :: ts →
    Host.Core.run core 2 s =
      exec i { s with inflight := some (encode i), DONE := false
                      host := ⟨ts, some .ok, s.host.draws⟩ }

/-- R11, R260: no state stops the machine. -/
def Obligations.NoStepStops : Prop :=
  ∀ s : State, ∃ t, step s = .next t

/-- R120: every accepted command completes: within one step more than the turns that wait, BUSY is 0.
That the core acts when no turn waits is the model's choice (log 2). -/
def Obligations.EveryAcceptedCommandEnds : Prop :=
  ∀ s : State, s.inflight ≠ none →
    ∃ k t, k ≤ s.host.turns.length + 1 ∧ Host.Core.run core k s = .next t ∧ t.inflight = none

/-! ### The commands -/

/-- R121: NOP, the word 0, changes BUSY and DONE only, in every phase; opcode 0 with any other bit set raises
ERR_ILL. -/
def Obligations.NopEndsAndChangesNothing : Prop :=
  (∀ c : Word, decode c = .ok .nop ↔ c = 0) ∧
  (∀ c : Word, c.toNat % 16 = 0 → c ≠ 0 → raisesErrIll c) ∧
  ∀ s : State, exec .nop s = .next { s with inflight := none, DONE := true }

/-- R122, R123: INIT of H-B, H-C and H-D; nothing else changes. -/
def Obligations.InitBCDOpenMessage : Prop :=
  ∀ (liv : Bool) (s : State),
    exec (.initB liv) s = .next { s with
      VAR := .B, S := if liv then s.cfg.ivB else s.S, BLKIDX := 0, NROUNDS := 120, PHASE := .ready
      inflight := none, DONE := true } ∧
    exec (.initC liv) s = .next { s with
      VAR := .C, S := if liv then s.cfg.ivC else s.S, BLKIDX := 0, NROUNDS := 80, PHASE := .ready
      inflight := none, DONE := true } ∧
    exec (.initD liv) s = .next { s with
      VAR := .D, S := if liv then s.cfg.ivD else s.S, BLKIDX := 0, NROUNDS := 80, PHASE := .ready
      inflight := none, DONE := true }

/-- R122, R123, R124: INIT of H-A: the round count from `CLEN + 1` as a natural number, and every adaptive
constant; nothing else changes. -/
def Obligations.InitAOpensMessage : Prop :=
  ∀ (liv : Bool) (s : State), ∃ (n : Word) (ac : Table),
    exec (.initA liv) s = .next { s with
      VAR := .A, S := if liv then s.cfg.ivA else s.S, BLKIDX := 0, NROUNDS := n, AC := ac
      PHASE := .ready, inflight := none, DONE := true } ∧
    n.toNat = 100 + 50 * flog (s.CLEN.toNat + 1) ∧ ac.len = s.cfg.base.len ∧
    ∀ i b, s.cfg.base.words[i]? = some b →
      ac.words[i]? = some (b ^^^ (s.MLEN * BitVec.ofNat 64 (i + 1)) ^^^ s.MHASH.signExtend 64)

/-- R125: CLEAR, the word 7, in every phase zeroes the data, the parameters and the error flags, and keeps CTRL and
the tables; opcode 7 with any other bit set raises ERR_ILL. -/
def Obligations.ClearZeroesEverythingButCtrl : Prop :=
  (∀ c : Word, decode c = .ok .clear ↔ c = 7) ∧
  (∀ c : Word, c.toNat % 16 = 7 → c ≠ 7 → raisesErrIll c) ∧
  ∀ s : State, ∃ ac : Table,
    exec .clear s = .next
      { cfg := s.cfg, S := Vector.replicate 8 0, work := ⟨0, 0, 0, 0, 0, 0, 0, 0⟩
        B := Vector.replicate 16 0, W := Vector.replicate 100 0, AC := ac
        MLEN := 0, CLEN := 0, MHASH := 0, BLKIDX := 0, NROUNDS := 0, IE := s.IE, DONE := true
        PHASE := .idle, VAR := .A, ERR_ILL := false, ERR_SEQ := false, ERR_BUSY := false
        inflight := none, host := s.host } ∧
    ac.words = List.replicate s.cfg.base.len 0

/-- R141: SCHED of H-A: the block, then every word from the words 16, 15, 7 and 2 places back; nothing but `W`
and the phase changes. -/
def Obligations.SchedAWritesSchedule : Prop :=
  ∀ s : State, s.PHASE = .ready → s.VAR = .A → ∃ w : Sched,
    exec .sched s = .next { s with W := w, PHASE := .schd, inflight := none, DONE := true } ∧
    (∀ k (h : k < 16), w[k] = s.B[k]) ∧
    ∀ i (_ : 16 ≤ i) (h : i < 100),
      let x := w[i - 15]
      let y := w[i - 2]
      w[i] = w[i - 16]
        + (x.rotateRight (i % 5 + 1) ^^^ x.rotateLeft (i % 8 + 7) ^^^ x.rotateRight (i % 10 + 13))
        + w[i - 7]
        + (y.rotateLeft (i % 3 + 19) ^^^ y.rotateRight (i % 9 + 23) ^^^ (y >>> 6))

/-- R142: SCHED of H-B; `W[80..99]` keep their words. -/
def Obligations.SchedBWritesSchedule : Prop :=
  ∀ s : State, s.PHASE = .ready → s.VAR = .B → ∃ w : Sched,
    exec .sched s = .next { s with W := w, PHASE := .schd, inflight := none, DONE := true } ∧
    (∀ k (h : k < 16), w[k] = s.B[k]) ∧
    (∀ i (_ : 16 ≤ i) (h : i < 80),
      let x := w[i - 15]
      let y := w[i - 2]
      w[i] = w[i - 16] + (x.rotateRight 1 ^^^ x.rotateRight 8 ^^^ (x >>> 7)) + w[i - 7]
        + (y.rotateRight 19 ^^^ y.rotateLeft 3 ^^^ (y >>> 10))) ∧
    ∀ i (_ : 80 ≤ i) (h : i < 100), w[i] = s.W[i]

/-- R143: SCHED of H-C: eight block words, eight zeros, then every word mixed by the avalanche; `W[64..99]` keep
their words. -/
def Obligations.SchedCWritesSchedule : Prop :=
  ∀ s : State, s.PHASE = .ready → s.VAR = .C → ∃ w : Sched,
    exec .sched s = .next { s with W := w, PHASE := .schd, inflight := none, DONE := true } ∧
    (∀ k (h : k < 8), w[k] = s.B[k]) ∧ (∀ k (_ : 8 ≤ k) (h : k < 16), w[k] = 0) ∧
    (∀ i (_ : 16 ≤ i) (h : i < 64),
      let x := w[i - 15]
      let y := w[i - 2]
      w[i] = avalanche (w[i - 16] + (x.rotateRight 1 ^^^ x.rotateRight 8 ^^^ (x >>> 7)) + w[i - 7]
        + (y.rotateRight 19 ^^^ y.rotateRight 61 ^^^ (y >>> 6)))) ∧
    ∀ i (_ : 64 ≤ i) (h : i < 100), w[i] = s.W[i]

/-- R144: SCHED of H-D writes nothing but moves the phase. -/
def Obligations.SchedDWritesNothing : Prop :=
  ∀ s : State, s.PHASE = .ready → s.VAR = .D →
    exec .sched s = .next { s with PHASE := .schd, inflight := none, DONE := true }

/-- R160 to R163: ROUNDS of H-A: the load, then `NROUNDS` rounds with `AC[r mod NBASE]` and `W[r mod 100]`;
nothing but `a..h` and the phase changes. -/
def Obligations.RoundsARunsEveryRound : Prop :=
  ∀ s : State, s.PHASE = .schd → s.VAR = .A → s.AC.len = s.cfg.base.len →
    ∃ x : Nat → Working, x 0 = loadedFrom s.S ∧
      (∀ r, r < s.NROUNDS.toNat →
        let e := (x r).e
        let a := (x r).a
        let t1 := roundT1Of
          (e.rotateRight (r % 7 + 14) ^^^ e.rotateLeft (r % 6 + 18) ^^^ e.rotateRight (r % 9 + 41))
          (s.AC.words.getD (r % s.cfg.base.len) 0) (s.W[r % 100]'(by omega)) (x r)
        let t2 := roundT2Of
          (a.rotateLeft (r % 8 + 28) ^^^ a.rotateRight (r % 5 + 34) ^^^ a.rotateLeft (r % 11 + 39)) (x r)
        x (r + 1) = shiftOf t1 t2 (x r)) ∧
      exec .rounds s = .next { s with
        work := x s.NROUNDS.toNat, PHASE := .rnds, inflight := none, DONE := true }

/-- R160, R161, R164 to R167: ROUNDS of H-B: the constant of the block, complemented in odd rounds, and the
write of `S[r mod 8]` every round. -/
def Obligations.RoundsBRunsEveryRound : Prop :=
  ∀ s : State, s.PHASE = .schd → s.VAR = .B →
    ∃ (x : Nat → Working) (v : Nat → Lanes), x 0 = loadedFrom s.S ∧ v 0 = s.S ∧
      (∀ r, r < s.NROUNDS.toNat →
        let k0 := s.cfg.kb.words.getD (s.BLKIDX.toNat % s.cfg.kb.len) 0
        let k := if r % 2 = 0 then k0 else ~~~k0
        let t1 := roundT1Of (fixedS1 (x r).e) k (s.W[r % 80]'(by omega)) (x r)
        let t2 := roundT2Of (fixedS0 (x r).a) (x r)
        x (r + 1) = shiftOf t1 t2 (x r) ∧
        v (r + 1) = (v r).set (r % 8) ((v r)[r % 8]'(by omega) ^^^ (t1 ^^^ k)) (by omega)) ∧
      exec .rounds s = .next { s with
        work := x s.NROUNDS.toNat, S := v s.NROUNDS.toNat, PHASE := .rnds
        inflight := none, DONE := true }

/-- R160, R161, R168 to R170: ROUNDS of H-C: parity rotations, the schedule word twice, and the mix step; `S`
does not change. -/
def Obligations.RoundsCRunsEveryRound : Prop :=
  ∀ s : State, s.PHASE = .schd → s.VAR = .C →
    ∃ x : Nat → Working, x 0 = loadedFrom s.S ∧
      (∀ r, r < s.NROUNDS.toNat →
        let rot := parityRotate r
        let e := (x r).e
        let a := (x r).a
        let w := s.W[r % 64]'(by omega)
        let t1 := roundT1Of (rot e 14 ^^^ rot e 18 ^^^ rot e 41)
          (s.cfg.rcc.words.getD (r % s.cfg.rcc.len) 0 ^^^ w) w (x r)
        let t2 := roundT2Of (rot a 28 ^^^ rot a 34 ^^^ rot a 39) (x r)
        let mix := rot t1 13 ^^^ sbox s.cfg.sboxC t2
        let y := shiftOf t1 t2 (x r)
        x (r + 1) = { y with e := y.e ^^^ mix, a := y.a ^^^ rot mix 19 }) ∧
      exec .rounds s = .next { s with
        work := x s.NROUNDS.toNat, PHASE := .rnds, inflight := none, DONE := true }

/-- R160, R161, R171 to R173: ROUNDS of H-D: the block words read directly, and the P-box on `S` every tenth
round. -/
def Obligations.RoundsDRunsEveryRound : Prop :=
  ∀ s : State, s.PHASE = .schd → s.VAR = .D →
    ∃ (x : Nat → Working) (v : Nat → Lanes), x 0 = loadedFrom s.S ∧ v 0 = s.S ∧
      (∀ r, r < s.NROUNDS.toNat →
        let b := s.B[r % 8]'(by omega)
        let t1 := roundT1Of (fixedS1 (x r).e) (s.cfg.rcd.words.getD (r % s.cfg.rcd.len) 0 ^^^ b)
          (sbox s.cfg.sboxD b) (x r)
        let t2 := roundT2Of (fixedS0 (x r).a) (x r)
        x (r + 1) = shiftOf t1 t2 (x r) ∧
        v (r + 1) = if r % 10 = 0 then pbox s.cfg.pbox (v r) r else v r) ∧
      exec .rounds s = .next { s with
        work := x s.NROUNDS.toNat, S := v s.NROUNDS.toNat, PHASE := .rnds
        inflight := none, DONE := true }

/-- R200 to R204: FOLD: the sum of the working words into every lane, H-A's permutation after it, and the block
index counted; nothing else changes. -/
def Obligations.FoldAddsSumIntoEveryLane : Prop :=
  ∀ s : State, s.PHASE = .rnds → ∃ v : Lanes,
    exec .fold s = .next { s with
      S := v, BLKIDX := s.BLKIDX + 1, PHASE := .ready, inflight := none, DONE := true } ∧
    let w := s.work
    let t := w.a + w.b + w.c + w.d + w.e + w.f + w.g + w.h
    (s.VAR ≠ .A → ∀ i (h : i < 8), v[i] = s.S[i] ^^^ t) ∧
    (s.VAR = .A → v = #v[s.S[2] ^^^ t, s.S[3] ^^^ t, s.S[7] ^^^ t, s.S[0] ^^^ t,
      s.S[5] ^^^ t, s.S[6] ^^^ t, s.S[1] ^^^ t, s.S[4] ^^^ t])

/-- R201, corner case: the sum fold keeps the exclusive or of any two state words. -/
def Obligations.SumFoldKeepsLaneDifferences : Prop :=
  ∀ s : State, s.PHASE = .rnds → s.VAR ≠ .A → ∃ t : State, exec .fold s = .next t ∧
    ∀ i j (hi : i < 8) (hj : j < 8), t.S[i] ^^^ t.S[j] = s.S[i] ^^^ s.S[j]

/-- R205: BLOCK, the word 5, in phase READY ends in the very state that SCHED, ROUNDS and FOLD one after another end
in, in phase READY again; in any other phase it is ERR_SEQ; opcode 5 with any other bit set raises ERR_ILL. -/
def Obligations.BlockIsSchedThenRoundsThenFold : Prop :=
  (∀ c : Word, decode c = .ok .block ↔ c = 5) ∧
  (∀ c : Word, c.toNat % 16 = 5 → c ≠ 5 → raisesErrIll c) ∧
  ∀ s : State,
    (s.PHASE = .ready → ∃ t1 t2 t3 : State,
      exec .sched s = .next t1 ∧ exec .rounds t1 = .next t2 ∧ exec .fold t2 = .next t3 ∧
      exec .block s = .next t3 ∧ t3.PHASE = .ready) ∧
    (s.PHASE ≠ .ready →
      exec .block s = .next { s with ERR_SEQ := true, inflight := none, DONE := true })

/-- R205: BLOCK writes `W`, `a..h`, `S` and `BLKIDX` and no other register, and for H-D not `W`. -/
def Obligations.BlockWritesOnlyWorkingState : Prop :=
  ∀ s : State, s.PHASE = .ready → ∃ t : State, exec .block s = .next t ∧
    t = { s with W := t.W, work := t.work, S := t.S, BLKIDX := s.BLKIDX + 1
                 inflight := none, DONE := true } ∧
    (s.VAR = .D → t.W = s.W)

/-- R216: FINAL of H-A changes no data register. -/
def Obligations.FinalAChangesNoData : Prop :=
  ∀ s : State, s.PHASE = .ready → s.VAR = .A →
    exec .final s = .next { s with PHASE := .fin, inflight := none, DONE := true }

/-- R217: FINAL of H-B: 16 passes; nothing but `S` and the phase changes. -/
def Obligations.FinalBRunsSixteenPasses : Prop :=
  ∀ s : State, s.PHASE = .ready → s.VAR = .B → ∃ v : Nat → Lanes, v 0 = s.S ∧
    (∀ p, p < 16 → isPassB s.cfg (v p) (v (p + 1))) ∧
    exec .final s = .next { s with S := v 16, PHASE := .fin, inflight := none, DONE := true }

/-- R218, R219: FINAL of H-C, 12 passes, and of H-D, 24; nothing but `S` and the phase changes. -/
def Obligations.FinalCDRunsItsPasses : Prop :=
  ∀ (s : State) (n : Nat), s.PHASE = .ready → (s.VAR = .C ∧ n = 12 ∨ s.VAR = .D ∧ n = 24) →
    ∃ v : Nat → Lanes, v 0 = s.S ∧ (∀ p, p < n → isPassCD p (v p) (v (p + 1))) ∧
    exec .final s = .next { s with S := v n, PHASE := .fin, inflight := none, DONE := true }

/-- R22 to R25, R32 to R35, R268: what no command but CLEAR writes, and what none writes at all. -/
def Obligations.CommandsKeepHostRegisters : Prop :=
  ∀ (i : Instr) (s : State), ∃ t, exec i s = .next t ∧
    t.cfg = s.cfg ∧ t.IE = s.IE ∧ t.host = s.host ∧ t.inflight = none ∧ t.DONE = true ∧
    (i ≠ .clear → t.B = s.B ∧ t.MLEN = s.MLEN ∧ t.CLEN = s.CLEN ∧ t.MHASH = s.MHASH ∧
      t.ERR_ILL = s.ERR_ILL ∧ t.ERR_BUSY = s.ERR_BUSY ∧ (s.ERR_SEQ = true → t.ERR_SEQ = true))

/-! ### The primitives -/

/-- R94, R95: the rotations are the 64-bit rotations, for every amount. The rules define the amounts 0 to 63; that
an amount of 64 or more is reduced modulo 64 is the model's choice (log 22). -/
def Obligations.RotationsAreRotations : Prop :=
  ∀ (x : Word) (n : Nat), rol x n = x.rotateLeft n ∧ ror x n = x.rotateRight n

/-- R97, R98: choose and majority, bit by bit. -/
def Obligations.ChooseAndMajorityBitwise : Prop :=
  ∀ (x y z : Word) (i : Nat), i < 64 →
    (ch x y z).getLsbD i = (if x.getLsbD i then y.getLsbD i else z.getLsbD i) ∧
    ((maj x y z).getLsbD i = true ↔
      2 ≤ (x.getLsbD i).toNat + (y.getLsbD i).toNat + (z.getLsbD i).toNat)

/-- R100: the five steps of the avalanche mixer, and its fixed point 0. -/
def Obligations.AvalancheFiveSteps : Prop :=
  avalanche 0 = 0 ∧
  ∀ x : Word,
    let x1 := x ^^^ (x >>> 29)
    let x2 := x1 * 0xBF58476D1CE4E5B9
    let x3 := x2 ^^^ (x2 >>> 27)
    let x4 := x3 * 0x94D049BB133111EB
    avalanche x = x4 ^^^ (x4 >>> 31)

/-- R101: byte `k` of the result is the table's entry for byte `k` of the word, the index reduced modulo 232, byte 0
being the most significant. -/
def Obligations.SboxReplacesEveryByte : Prop :=
  ∀ (t : Vector Byte 232) (x : Word) (k : Nat), k < 8 →
    (sbox t x).extractLsb' (56 - 8 * k) 8 =
      t[(x.extractLsb' (56 - 8 * k) 8).toNat % 232]'(Nat.mod_lt _ (by decide))

/-- R102, R103: bit reversal bit by bit, and the P-box as a gather of reversed words, the index `(PBOX[i] + 3r) mod 8`,
all reads from the old state. -/
def Obligations.PboxGathersReversedWords : Prop :=
  (∀ (x : Word) (j : Nat), j < 64 → (bitrev64 x).getLsbD j = x.getLsbD (63 - j)) ∧
  ∀ (t : Vector Nat 64) (v : Lanes) (r i : Nat) (hi : i < 8),
    (pbox t v r)[i] = bitrev64 (v[(t[i] + 3 * r) % 8]'(by omega))

/-- R108: `flog` is the floor of the natural logarithm on its whole range. -/
def Obligations.FlogIsFloorOfNaturalLog : Prop :=
  ∀ n : Nat, 1 ≤ n → n ≤ 2 ^ 64 →
    Real.exp (flog n) ≤ n ∧ (n : ℝ) < Real.exp (flog n + 1)

/-! ### The register window -/

/-- R30: the layout of the STATUS word; BUSY is the presence of a command in flight (log 7). -/
def Obligations.StatusWordLayout : Prop :=
  ∀ s : State,
    (statusWord s).getLsbD 0 = s.inflight.isSome ∧ (statusWord s).getLsbD 1 = s.DONE ∧
    (statusWord s).extractLsb' 2 3 =
      (match s.PHASE with | .idle => 0 | .ready => 1 | .schd => 2 | .rnds => 3 | .fin => 4) ∧
    (statusWord s).extractLsb' 5 2 = (match s.VAR with | .A => 0 | .B => 1 | .C => 2 | .D => 3) ∧
    (statusWord s).getLsbD 7 = false ∧ (statusWord s).getLsbD 8 = s.ERR_ILL ∧
    (statusWord s).getLsbD 9 = s.ERR_SEQ ∧ (statusWord s).getLsbD 10 = s.ERR_BUSY ∧
    (statusWord s).extractLsb' 11 53 = 0

/-- R51, R55: what the host reads at every location while no command is in flight; the read changes nothing but the
answer on the bus. -/
def Obligations.IdleReadsReturnRegisters : Prop :=
  ∀ s : State, s.inflight = none →
    let reads (off : Nat) (x : Word) : Prop :=
      memRead (BitVec.ofNat 12 off) 8 s = answered (.data x) s
    reads 0x000 0 ∧ reads 0x008 (statusWord s) ∧ reads 0x010 (if s.IE then 1 else 0) ∧
    reads 0x018 s.MLEN ∧ reads 0x020 s.CLEN ∧ reads 0x028 (s.MHASH.setWidth 64) ∧
    reads 0x030 s.BLKIDX ∧ reads 0x038 s.NROUNDS ∧
    (∀ i (h : i < 8), reads (0x040 + 8 * i) s.S[i]) ∧
    reads 0x080 s.work.a ∧ reads 0x088 s.work.b ∧ reads 0x090 s.work.c ∧ reads 0x098 s.work.d ∧
    reads 0x0A0 s.work.e ∧ reads 0x0A8 s.work.f ∧ reads 0x0B0 s.work.g ∧ reads 0x0B8 s.work.h ∧
    (∀ i (h : i < 16), reads (0x100 + 8 * i) s.B[i]) ∧
    ∀ i (h : i < 100), reads (0x200 + 8 * i) s.W[i]

/-- R31, R56, R57, R65: what a write does at every location while no command is in flight, and that it changes nothing
else. -/
def Obligations.IdleWritesStoreAndNothingElse : Prop :=
  ∀ (s : State) (v : Word), s.inflight = none →
    let writes (off : Nat) (t : State) : Prop :=
      memWrite (BitVec.ofNat 12 off) 8 v s = answered .ok t
    writes 0x000 { s with inflight := some v, DONE := false } ∧
    writes 0x008 { s with
      DONE := if v.getLsbD 1 then false else s.DONE
      ERR_ILL := if v.getLsbD 8 then false else s.ERR_ILL
      ERR_SEQ := if v.getLsbD 9 then false else s.ERR_SEQ
      ERR_BUSY := if v.getLsbD 10 then false else s.ERR_BUSY } ∧
    writes 0x010 { s with IE := v.getLsbD 0 } ∧ writes 0x018 { s with MLEN := v } ∧
    writes 0x020 { s with CLEN := v } ∧ writes 0x028 { s with MHASH := v.extractLsb' 0 32 } ∧
    writes 0x030 { s with BLKIDX := v } ∧ writes 0x038 s ∧
    (∀ i (h : i < 8), writes (0x040 + 8 * i) { s with S := s.S.set i v }) ∧
    (∀ i, i < 8 → writes (0x080 + 8 * i) s) ∧
    (∀ i (h : i < 16), writes (0x100 + 8 * i) { s with B := s.B.set i v }) ∧
    ∀ i, i < 100 → writes (0x200 + 8 * i) s

/-- R53, R54, R265: a width other than 64 bits, a misaligned offset or a reserved one is a bus error, busy or not, and
changes nothing but the answer on the bus. -/
def Obligations.BadAccessIsBusError : Prop :=
  ∀ (off : Offset) (n : Nat) (v : Word) (s : State),
    (n ≠ 8 ∨ off.toNat % 8 ≠ 0 ∨ (0x0C0 ≤ off.toNat ∧ off.toNat < 0x100) ∨
      (0x180 ≤ off.toNat ∧ off.toNat < 0x200) ∨ 0x520 ≤ off.toNat) →
    memRead off n s = answered .busError s ∧ memWrite off n v s = answered .busError s

/-- R63: a write to any valid offset while a command is in flight is dropped and sets ERR_BUSY, and changes nothing else;
a reserved or misaligned offset is still a bus error and sets no flag. The flag survives the completion (of every
command but CLEAR, R125). -/
def Obligations.BusyWriteIsDropped : Prop :=
  ∀ (off : Offset) (v : Word) (s : State), s.inflight ≠ none →
    let valid : Prop := off.toNat % 8 = 0 ∧
      (off.toNat < 0x0C0 ∨ (0x100 ≤ off.toNat ∧ off.toNat < 0x180) ∨
        (0x200 ≤ off.toNat ∧ off.toNat < 0x520))
    (valid → memWrite off 8 v s = answered .ok { s with ERR_BUSY := true }) ∧
    (¬ valid → memWrite off 8 v s = answered .busError s) ∧
    ∀ i : Instr, i ≠ .clear → ∃ t, exec i { s with ERR_BUSY := true } = .next t ∧ t.ERR_BUSY = true

/-- R62: while a command is in flight STATUS and CMD read exactly; a read of any other valid location leaves every
register alone, whatever it returns. The last clause, that the value is draw number `draws` of the model, is the
model's choice (log 5). -/
def Obligations.BusyReadsChangeNoRegister : Prop :=
  ∀ (off : Offset) (s : State), s.inflight ≠ none →
    memRead 0x000 8 s = answered (.data 0) s ∧
    memRead 0x008 8 s = answered (.data (statusWord s)) s ∧
    (off.toNat % 8 = 0 → (0x010 ≤ off.toNat ∧ off.toNat < 0x0C0) ∨
        (0x100 ≤ off.toNat ∧ off.toNat < 0x180) ∨ (0x200 ≤ off.toNat ∧ off.toNat < 0x520) →
      memRead off 8 s = { s with host :=
        ⟨s.host.turns, some (.data (Config.busyRead s.host.draws)), s.host.draws + 1⟩ })

/-- R51: the map is one to one: a register's offset reaches that register, and an offset that reaches a register is its
offset. -/
def Obligations.RegisterMapIsOneToOne : Prop :=
  ∀ (r : Reg) (off : Offset), target off 8 = some r ↔ offsetOf r = off

/-- R55: a host read, as a step, changes no register. Turns as data are the model's choice (log 2). -/
def Obligations.ReadStepChangesNoRegister : Prop :=
  ∀ (s : State) (off : Offset) (n : Nat) (ts : List Turn), s.host.turns = .host (.read off n) :: ts →
    ∃ t, step s = .next t ∧ { t with host := s.host } = s ∧ t.host.turns = ts

/-- R22, R24, R25, R28, R37, R295: a host transaction, as a step, changes neither the phase nor the variant nor the
registers the host cannot write. Turns as data are the model's choice (log 2). -/
def Obligations.HostStepKeepsCoreRegisters : Prop :=
  ∀ (s : State) (acc : Access) (ts : List Turn), s.host.turns = .host acc :: ts →
    ∃ t, step s = .next t ∧ t.PHASE = s.PHASE ∧ t.VAR = s.VAR ∧ t.work = s.work ∧ t.W = s.W ∧
      t.AC = s.AC ∧ t.NROUNDS = s.NROUNDS ∧ t.cfg = s.cfg ∧ t.host.turns = ts

/-- R269: the interrupt output: low at acceptance, and after a completion it is the enable bit. -/
def Obligations.IrqFollowsDoneAndEnable : Prop :=
  ∀ (c : Word) (i : Instr) (s : State), irq (accept c s) = false ∧
    ∃ t, exec i s = .next t ∧ irq t = s.IE

/-! ### Reset -/

/-- R40, R285: the reset input, in any state, leaves every register and flag but `W` and `AC` at the stated value, no
command in flight, and the tables as they were. That the reset input is one turn and leaves the host's turns alone
is the model's choice (log 10). -/
def Obligations.ResetInputClearsRegisters : Prop :=
  ∀ (s : State) (ts : List Turn), s.host.turns = .reset :: ts → ∃ t, step s = .next t ∧
    t.S = Vector.replicate 8 0 ∧ t.work = ⟨0, 0, 0, 0, 0, 0, 0, 0⟩ ∧ t.B = Vector.replicate 16 0 ∧
    t.MLEN = 0 ∧ t.CLEN = 0 ∧ t.MHASH = 0 ∧ t.BLKIDX = 0 ∧ t.NROUNDS = 0 ∧
    statusWord t = 0 ∧ t.IE = false ∧ irq t = false ∧ t.inflight = none ∧ t.cfg = s.cfg ∧
    t.host.turns = ts

/-- R40, R285: the same of the machine's reset state. -/
def Obligations.ResetStateValues : Prop :=
  let t := State.reset
  t.S = Vector.replicate 8 0 ∧ t.work = ⟨0, 0, 0, 0, 0, 0, 0, 0⟩ ∧ t.B = Vector.replicate 16 0 ∧
    t.MLEN = 0 ∧ t.CLEN = 0 ∧ t.MHASH = 0 ∧ t.BLKIDX = 0 ∧ t.NROUNDS = 0 ∧
    statusWord t = 0 ∧ t.IE = false ∧ irq t = false ∧ t.inflight = none

/-- R25, R37, R40, R62: the invariant holds at reset. -/
def Obligations.InvHoldsAtReset : Prop := State.reset.Inv

/-! ### The whole machine -/

/-- R25, R37, R62, R123, R295: every step keeps the invariant: the length of `AC`, DONE 0 while busy, the round count
legal for the variant. -/
def Obligations.EveryStepKeepsInv : Prop :=
  ∀ s t : State, s.Inv → step s = .next t → t.Inv

/-- R26, R41: no step changes the constant tables. -/
def Obligations.EveryStepKeepsTables : Prop :=
  ∀ s t : State, step s = .next t → t.cfg = s.cfg

/-- R295: the variant changes only by reset or by the completion of an INIT or a CLEAR. -/
def Obligations.VariantChangesOnlyAtInitClearReset : Prop :=
  ∀ s t : State, step s = .next t → t.VAR ≠ s.VAR →
    (∃ ts, s.host.turns = .reset :: ts) ∨
    (coreActsNext s = true ∧ (s.inflight = some (encode .clear) ∨
      ∃ v liv, s.inflight = some (encode (initOf v liv))))

/-- R249: no unspecified value reaches `S` or `a..h`: two machines that differ at most in the words of `W` and `AC` not
yet written, in the answers on the bus and in the draws still differ in nothing else after a step. -/
def Obligations.UnspecifiedValuesReachNothing : Prop :=
  ∀ s s' t t' : State, SameButUnspecified s s' → step s = .next t → step s' = .next t' →
    SameButUnspecified t t'

/-! ### The host's duties -/

/-- R82: WAIT. As a loop it ends for every pace of the core, in a state with no command in flight, on a poll that
reads BUSY 0; its turns end in the state the loop ends in; and while a command is in flight every poll before the
completion reads BUSY 1 and the command stays in flight. That the pace of the core is a number of polls is the
model's choice (log 18). -/
def Obligations.WaitPollsUntilIdle : Prop :=
  ∀ (n : Nat) (s : State),
    (∃ t, waitLoop n s = .next t ∧ t.inflight = none ∧ answeredBusy t = false ∧
      t.host.turns = s.host.turns) ∧
    (∀ ts, s.host.turns = waitTurns s.busy n ++ ts →
      Host.Core.run core (waitTurns s.busy n).length s = waitLoop n (withTurns ts s)) ∧
    ∀ ts k, s.inflight ≠ none → s.host.turns = waitTurns s.busy n ++ ts → 1 ≤ k → k ≤ n →
      ∃ t, Host.Core.run core k s = .next t ∧ answeredBusy t = true ∧ t.inflight = s.inflight

/-- R237, R238: the padded string is cut into whole blocks, and how many. -/
def Obligations.PaddedMessageBlockCount : Prop :=
  ∀ (o : FooterOrder) (msg : List Byte),
    (padded .p128 o msg).length = 128 * ((msg.length + 8) / 128 + 1) ∧
    (padded .p64x2 o msg).length = 64 * ((msg.length + 16) / 64 + 1)

/-- R237 to R240: how many blocks a message makes, each of the variant's number of words, whatever `host.DFB` names:
H-C and H-D have one more where the length is a multiple of 64. That the empty message has no extra block is the
model's reading (log 16). -/
def Obligations.MessageBlockCount : Prop :=
  ∀ (v : Variant) (o : FooterOrder) (dfb : Nat → ExtraBlock) (msg : List Byte),
    (∀ b ∈ messageBlocks v o dfb msg, b.length = nblk v) ∧
    (messageBlocks v o dfb msg).length =
      if v = .A ∨ v = .B then (msg.length + 8) / 128 + 1
      else (msg.length + 16) / 64 + 1 + (if msg.length ≠ 0 ∧ msg.length % 64 = 0 then 1 else 0)

/-- R237: the last word of the last P128 block is the bit length. -/
def Obligations.LastP128WordIsBitLength : Prop :=
  ∀ (o : FooterOrder) (msg : List Byte),
    ((blocksOfBytes .p128 (padded .p128 o msg)).getLast?.bind fun b => b.getLast?)
      = some (BitVec.ofNat 64 (8 * msg.length))

/-- R242: the recurrence of the string hash code. -/
def Obligations.HashCodeRecurrence : Prop :=
  hashCode [] = 0 ∧
  ∀ (us : List (BitVec 16)) (u : BitVec 16),
    hashCode (us ++ [u]) = 31 * hashCode us + BitVec.ofNat 32 u.toNat

/-- R245, R246: 128 digits, 132 characters for H-A. -/
def Obligations.DigestLength : Prop :=
  ∀ (var : Variant) (v : Lanes),
    (digestChars var v).length = if var = .A then 132 else 128
end

