-- ==== Sys2Proof/Laws/Data.lean ====
section
/-! SUPPORT. The small lemmas of the data path: reads after writes of lanes and schedule words, tables, and
the loops of the commands one iteration at a time. -/

namespace Sys2Proof.Machine

theorem lane_eq (v : Lanes) {k : Nat} (h : k < 8) : lane v k = v[k] := by
  simp [lane, Nat.mod_eq_of_lt h]

theorem lane_setLane (v : Lanes) (j k : Nat) (x : Word) :
    lane (setLane v j x) k = if j % 8 = k % 8 then x else lane v k := by
  simp [lane, setLane, Vector.getElem_set]

theorem schedWord_eq (w : Sched) {k : Nat} (h : k < 100) : schedWord w k = w[k] := by
  simp [schedWord, Nat.mod_eq_of_lt h]

theorem schedWord_setSched (w : Sched) (j k : Nat) (x : Word) :
    schedWord (setSched w j x) k = if j % 100 = k % 100 then x else schedWord w k := by
  simp [schedWord, setSched, Vector.getElem_set]

theorem blockWord_eq (b : Block) {k : Nat} (h : k < 16) : blockWord b k = b[k] := by
  simp [blockWord, Nat.mod_eq_of_lt h]

@[simp] theorem words_length (t : Table) : t.words.length = t.len := rfl

theorem tableAt_eq_getD (t : Table) (k : Nat) : tableAt t k = t.words.getD (k % t.len) 0 := by
  have h : k % t.len < t.words.length := Nat.mod_lt _ (Nat.succ_pos _)
  simp [tableAt, List.getElem?_eq_getElem h]

@[simp] theorem mkTable_len (c : Cfg) (f : Nat → Word) : (mkTable c f).len = c.base.len := by
  simp [mkTable, Table.len]

theorem mkTable_words (c : Cfg) (f : Nat → Word) :
    (mkTable c f).words = (List.range c.base.len).map f := by
  simp [mkTable, Table.words, Table.len, List.range_succ_eq_map]

@[simp] theorem sumFold_getElem (w : Working) (v : Lanes) (i : Nat) (h : i < 8) :
    (sumFold w v)[i] = v[i] ^^^ sum8 w := by
  simp [sumFold]

/-- The load of the working words, before round 0 (R160). -/
@[simp] theorem runRounds_zero (s : State) : runRounds s 0 = ⟨loadWorking s.S, s.S⟩ := rfl

/-- Round `n` comes after rounds 0 to `n - 1` (R160). -/
theorem runRounds_succ (s : State) (n : Nat) :
    runRounds s (n + 1) = oneRound s (runRounds s n) n := by
  simp [runRounds, List.range_succ, List.foldl_append]

@[simp] theorem finalCD_zero (v : Lanes) : finalCD 0 v = v := rfl

/-- Pass `n` comes after passes 0 to `n - 1` (R218). -/
theorem finalCD_succ (n : Nat) (v : Lanes) : finalCD (n + 1) v = passCD (finalCD n v) n := by
  simp [finalCD, List.range_succ, List.foldl_append]

/-- BLOCK writes `W`, `a..h`, `S` and `BLKIDX` only (R205). -/
theorem blockEffect_frame (s : State) :
    blockEffect s = { s with
      W := (blockEffect s).W, work := (blockEffect s).work, S := (blockEffect s).S
      BLKIDX := s.BLKIDX + 1 } := rfl

end Sys2Proof.Machine
end

