-- ==== Sys2Proof/Laws/State.lean ====
section
/-! SUPPORT. The field of every update of the state, one lemma per field per update, so that no proof unfolds
a record update. All hold by definition. -/

namespace Sys2Proof.Machine

/-! #### `retire s` -/

@[simp] theorem retire_cfg (s : State) : (retire s).cfg = s.cfg := rfl
@[simp] theorem retire_S (s : State) : (retire s).S = s.S := rfl
@[simp] theorem retire_work (s : State) : (retire s).work = s.work := rfl
@[simp] theorem retire_B (s : State) : (retire s).B = s.B := rfl
@[simp] theorem retire_W (s : State) : (retire s).W = s.W := rfl
@[simp] theorem retire_AC (s : State) : (retire s).AC = s.AC := rfl
@[simp] theorem retire_MLEN (s : State) : (retire s).MLEN = s.MLEN := rfl
@[simp] theorem retire_CLEN (s : State) : (retire s).CLEN = s.CLEN := rfl
@[simp] theorem retire_MHASH (s : State) : (retire s).MHASH = s.MHASH := rfl
@[simp] theorem retire_BLKIDX (s : State) : (retire s).BLKIDX = s.BLKIDX := rfl
@[simp] theorem retire_NROUNDS (s : State) : (retire s).NROUNDS = s.NROUNDS := rfl
@[simp] theorem retire_IE (s : State) : (retire s).IE = s.IE := rfl
@[simp] theorem retire_DONE (s : State) : (retire s).DONE = true := rfl
@[simp] theorem retire_PHASE (s : State) : (retire s).PHASE = s.PHASE := rfl
@[simp] theorem retire_VAR (s : State) : (retire s).VAR = s.VAR := rfl
@[simp] theorem retire_ERR_ILL (s : State) : (retire s).ERR_ILL = s.ERR_ILL := rfl
@[simp] theorem retire_ERR_SEQ (s : State) : (retire s).ERR_SEQ = s.ERR_SEQ := rfl
@[simp] theorem retire_ERR_BUSY (s : State) : (retire s).ERR_BUSY = s.ERR_BUSY := rfl
@[simp] theorem retire_inflight (s : State) : (retire s).inflight = none := rfl
@[simp] theorem retire_host (s : State) : (retire s).host = s.host := rfl
@[simp] theorem retire_busy (s : State) : (retire s).busy = false := rfl

/-! #### `accept c s` -/

@[simp] theorem accept_cfg (c : Word) (s : State) : (accept c s).cfg = s.cfg := rfl
@[simp] theorem accept_S (c : Word) (s : State) : (accept c s).S = s.S := rfl
@[simp] theorem accept_work (c : Word) (s : State) : (accept c s).work = s.work := rfl
@[simp] theorem accept_B (c : Word) (s : State) : (accept c s).B = s.B := rfl
@[simp] theorem accept_W (c : Word) (s : State) : (accept c s).W = s.W := rfl
@[simp] theorem accept_AC (c : Word) (s : State) : (accept c s).AC = s.AC := rfl
@[simp] theorem accept_MLEN (c : Word) (s : State) : (accept c s).MLEN = s.MLEN := rfl
@[simp] theorem accept_CLEN (c : Word) (s : State) : (accept c s).CLEN = s.CLEN := rfl
@[simp] theorem accept_MHASH (c : Word) (s : State) : (accept c s).MHASH = s.MHASH := rfl
@[simp] theorem accept_BLKIDX (c : Word) (s : State) : (accept c s).BLKIDX = s.BLKIDX := rfl
@[simp] theorem accept_NROUNDS (c : Word) (s : State) : (accept c s).NROUNDS = s.NROUNDS := rfl
@[simp] theorem accept_IE (c : Word) (s : State) : (accept c s).IE = s.IE := rfl
@[simp] theorem accept_DONE (c : Word) (s : State) : (accept c s).DONE = false := rfl
@[simp] theorem accept_PHASE (c : Word) (s : State) : (accept c s).PHASE = s.PHASE := rfl
@[simp] theorem accept_VAR (c : Word) (s : State) : (accept c s).VAR = s.VAR := rfl
@[simp] theorem accept_ERR_ILL (c : Word) (s : State) : (accept c s).ERR_ILL = s.ERR_ILL := rfl
@[simp] theorem accept_ERR_SEQ (c : Word) (s : State) : (accept c s).ERR_SEQ = s.ERR_SEQ := rfl
@[simp] theorem accept_ERR_BUSY (c : Word) (s : State) : (accept c s).ERR_BUSY = s.ERR_BUSY := rfl
@[simp] theorem accept_inflight (c : Word) (s : State) : (accept c s).inflight = some c := rfl
@[simp] theorem accept_host (c : Word) (s : State) : (accept c s).host = s.host := rfl
@[simp] theorem accept_busy (c : Word) (s : State) : (accept c s).busy = true := rfl

/-! #### `clearStatus v s` -/

@[simp] theorem clearStatus_cfg (v : Word) (s : State) : (clearStatus v s).cfg = s.cfg := rfl
@[simp] theorem clearStatus_S (v : Word) (s : State) : (clearStatus v s).S = s.S := rfl
@[simp] theorem clearStatus_work (v : Word) (s : State) : (clearStatus v s).work = s.work := rfl
@[simp] theorem clearStatus_B (v : Word) (s : State) : (clearStatus v s).B = s.B := rfl
@[simp] theorem clearStatus_W (v : Word) (s : State) : (clearStatus v s).W = s.W := rfl
@[simp] theorem clearStatus_AC (v : Word) (s : State) : (clearStatus v s).AC = s.AC := rfl
@[simp] theorem clearStatus_MLEN (v : Word) (s : State) : (clearStatus v s).MLEN = s.MLEN := rfl
@[simp] theorem clearStatus_CLEN (v : Word) (s : State) : (clearStatus v s).CLEN = s.CLEN := rfl
@[simp] theorem clearStatus_MHASH (v : Word) (s : State) : (clearStatus v s).MHASH = s.MHASH := rfl
@[simp] theorem clearStatus_BLKIDX (v : Word) (s : State) : (clearStatus v s).BLKIDX = s.BLKIDX := rfl
@[simp] theorem clearStatus_NROUNDS (v : Word) (s : State) : (clearStatus v s).NROUNDS = s.NROUNDS := rfl
@[simp] theorem clearStatus_IE (v : Word) (s : State) : (clearStatus v s).IE = s.IE := rfl
@[simp] theorem clearStatus_DONE (v : Word) (s : State) :
    (clearStatus v s).DONE = (s.DONE && !v.getLsbD 1) := rfl
@[simp] theorem clearStatus_PHASE (v : Word) (s : State) : (clearStatus v s).PHASE = s.PHASE := rfl
@[simp] theorem clearStatus_VAR (v : Word) (s : State) : (clearStatus v s).VAR = s.VAR := rfl
@[simp] theorem clearStatus_ERR_ILL (v : Word) (s : State) :
    (clearStatus v s).ERR_ILL = (s.ERR_ILL && !v.getLsbD 8) := rfl
@[simp] theorem clearStatus_ERR_SEQ (v : Word) (s : State) :
    (clearStatus v s).ERR_SEQ = (s.ERR_SEQ && !v.getLsbD 9) := rfl
@[simp] theorem clearStatus_ERR_BUSY (v : Word) (s : State) :
    (clearStatus v s).ERR_BUSY = (s.ERR_BUSY && !v.getLsbD 10) := rfl
@[simp] theorem clearStatus_inflight (v : Word) (s : State) : (clearStatus v s).inflight = s.inflight := rfl
@[simp] theorem clearStatus_host (v : Word) (s : State) : (clearStatus v s).host = s.host := rfl
@[simp] theorem clearStatus_busy (v : Word) (s : State) : (clearStatus v s).busy = s.busy := rfl

/-! #### `raiseErr .ill s` -/

@[simp] theorem raiseErr_ill_cfg (s : State) : (raiseErr .ill s).cfg = s.cfg := rfl
@[simp] theorem raiseErr_ill_S (s : State) : (raiseErr .ill s).S = s.S := rfl
@[simp] theorem raiseErr_ill_work (s : State) : (raiseErr .ill s).work = s.work := rfl
@[simp] theorem raiseErr_ill_B (s : State) : (raiseErr .ill s).B = s.B := rfl
@[simp] theorem raiseErr_ill_W (s : State) : (raiseErr .ill s).W = s.W := rfl
@[simp] theorem raiseErr_ill_AC (s : State) : (raiseErr .ill s).AC = s.AC := rfl
@[simp] theorem raiseErr_ill_MLEN (s : State) : (raiseErr .ill s).MLEN = s.MLEN := rfl
@[simp] theorem raiseErr_ill_CLEN (s : State) : (raiseErr .ill s).CLEN = s.CLEN := rfl
@[simp] theorem raiseErr_ill_MHASH (s : State) : (raiseErr .ill s).MHASH = s.MHASH := rfl
@[simp] theorem raiseErr_ill_BLKIDX (s : State) : (raiseErr .ill s).BLKIDX = s.BLKIDX := rfl
@[simp] theorem raiseErr_ill_NROUNDS (s : State) : (raiseErr .ill s).NROUNDS = s.NROUNDS := rfl
@[simp] theorem raiseErr_ill_IE (s : State) : (raiseErr .ill s).IE = s.IE := rfl
@[simp] theorem raiseErr_ill_DONE (s : State) : (raiseErr .ill s).DONE = s.DONE := rfl
@[simp] theorem raiseErr_ill_PHASE (s : State) : (raiseErr .ill s).PHASE = s.PHASE := rfl
@[simp] theorem raiseErr_ill_VAR (s : State) : (raiseErr .ill s).VAR = s.VAR := rfl
@[simp] theorem raiseErr_ill_ERR_ILL (s : State) : (raiseErr .ill s).ERR_ILL = true := rfl
@[simp] theorem raiseErr_ill_ERR_SEQ (s : State) : (raiseErr .ill s).ERR_SEQ = s.ERR_SEQ := rfl
@[simp] theorem raiseErr_ill_ERR_BUSY (s : State) : (raiseErr .ill s).ERR_BUSY = s.ERR_BUSY := rfl
@[simp] theorem raiseErr_ill_inflight (s : State) : (raiseErr .ill s).inflight = s.inflight := rfl
@[simp] theorem raiseErr_ill_host (s : State) : (raiseErr .ill s).host = s.host := rfl
@[simp] theorem raiseErr_ill_busy (s : State) : (raiseErr .ill s).busy = s.busy := rfl

/-! #### `raiseErr .seq s` -/

@[simp] theorem raiseErr_seq_cfg (s : State) : (raiseErr .seq s).cfg = s.cfg := rfl
@[simp] theorem raiseErr_seq_S (s : State) : (raiseErr .seq s).S = s.S := rfl
@[simp] theorem raiseErr_seq_work (s : State) : (raiseErr .seq s).work = s.work := rfl
@[simp] theorem raiseErr_seq_B (s : State) : (raiseErr .seq s).B = s.B := rfl
@[simp] theorem raiseErr_seq_W (s : State) : (raiseErr .seq s).W = s.W := rfl
@[simp] theorem raiseErr_seq_AC (s : State) : (raiseErr .seq s).AC = s.AC := rfl
@[simp] theorem raiseErr_seq_MLEN (s : State) : (raiseErr .seq s).MLEN = s.MLEN := rfl
@[simp] theorem raiseErr_seq_CLEN (s : State) : (raiseErr .seq s).CLEN = s.CLEN := rfl
@[simp] theorem raiseErr_seq_MHASH (s : State) : (raiseErr .seq s).MHASH = s.MHASH := rfl
@[simp] theorem raiseErr_seq_BLKIDX (s : State) : (raiseErr .seq s).BLKIDX = s.BLKIDX := rfl
@[simp] theorem raiseErr_seq_NROUNDS (s : State) : (raiseErr .seq s).NROUNDS = s.NROUNDS := rfl
@[simp] theorem raiseErr_seq_IE (s : State) : (raiseErr .seq s).IE = s.IE := rfl
@[simp] theorem raiseErr_seq_DONE (s : State) : (raiseErr .seq s).DONE = s.DONE := rfl
@[simp] theorem raiseErr_seq_PHASE (s : State) : (raiseErr .seq s).PHASE = s.PHASE := rfl
@[simp] theorem raiseErr_seq_VAR (s : State) : (raiseErr .seq s).VAR = s.VAR := rfl
@[simp] theorem raiseErr_seq_ERR_ILL (s : State) : (raiseErr .seq s).ERR_ILL = s.ERR_ILL := rfl
@[simp] theorem raiseErr_seq_ERR_SEQ (s : State) : (raiseErr .seq s).ERR_SEQ = true := rfl
@[simp] theorem raiseErr_seq_ERR_BUSY (s : State) : (raiseErr .seq s).ERR_BUSY = s.ERR_BUSY := rfl
@[simp] theorem raiseErr_seq_inflight (s : State) : (raiseErr .seq s).inflight = s.inflight := rfl
@[simp] theorem raiseErr_seq_host (s : State) : (raiseErr .seq s).host = s.host := rfl
@[simp] theorem raiseErr_seq_busy (s : State) : (raiseErr .seq s).busy = s.busy := rfl

/-! #### `raiseErr .busy s` -/

@[simp] theorem raiseErr_busy_cfg (s : State) : (raiseErr .busy s).cfg = s.cfg := rfl
@[simp] theorem raiseErr_busy_S (s : State) : (raiseErr .busy s).S = s.S := rfl
@[simp] theorem raiseErr_busy_work (s : State) : (raiseErr .busy s).work = s.work := rfl
@[simp] theorem raiseErr_busy_B (s : State) : (raiseErr .busy s).B = s.B := rfl
@[simp] theorem raiseErr_busy_W (s : State) : (raiseErr .busy s).W = s.W := rfl
@[simp] theorem raiseErr_busy_AC (s : State) : (raiseErr .busy s).AC = s.AC := rfl
@[simp] theorem raiseErr_busy_MLEN (s : State) : (raiseErr .busy s).MLEN = s.MLEN := rfl
@[simp] theorem raiseErr_busy_CLEN (s : State) : (raiseErr .busy s).CLEN = s.CLEN := rfl
@[simp] theorem raiseErr_busy_MHASH (s : State) : (raiseErr .busy s).MHASH = s.MHASH := rfl
@[simp] theorem raiseErr_busy_BLKIDX (s : State) : (raiseErr .busy s).BLKIDX = s.BLKIDX := rfl
@[simp] theorem raiseErr_busy_NROUNDS (s : State) : (raiseErr .busy s).NROUNDS = s.NROUNDS := rfl
@[simp] theorem raiseErr_busy_IE (s : State) : (raiseErr .busy s).IE = s.IE := rfl
@[simp] theorem raiseErr_busy_DONE (s : State) : (raiseErr .busy s).DONE = s.DONE := rfl
@[simp] theorem raiseErr_busy_PHASE (s : State) : (raiseErr .busy s).PHASE = s.PHASE := rfl
@[simp] theorem raiseErr_busy_VAR (s : State) : (raiseErr .busy s).VAR = s.VAR := rfl
@[simp] theorem raiseErr_busy_ERR_ILL (s : State) : (raiseErr .busy s).ERR_ILL = s.ERR_ILL := rfl
@[simp] theorem raiseErr_busy_ERR_SEQ (s : State) : (raiseErr .busy s).ERR_SEQ = s.ERR_SEQ := rfl
@[simp] theorem raiseErr_busy_ERR_BUSY (s : State) : (raiseErr .busy s).ERR_BUSY = true := rfl
@[simp] theorem raiseErr_busy_inflight (s : State) : (raiseErr .busy s).inflight = s.inflight := rfl
@[simp] theorem raiseErr_busy_host (s : State) : (raiseErr .busy s).host = s.host := rfl
@[simp] theorem raiseErr_busy_busy (s : State) : (raiseErr .busy s).busy = s.busy := rfl

/-! #### `answer a s` -/

@[simp] theorem answer_cfg (a : Response) (s : State) : (answer a s).cfg = s.cfg := rfl
@[simp] theorem answer_S (a : Response) (s : State) : (answer a s).S = s.S := rfl
@[simp] theorem answer_work (a : Response) (s : State) : (answer a s).work = s.work := rfl
@[simp] theorem answer_B (a : Response) (s : State) : (answer a s).B = s.B := rfl
@[simp] theorem answer_W (a : Response) (s : State) : (answer a s).W = s.W := rfl
@[simp] theorem answer_AC (a : Response) (s : State) : (answer a s).AC = s.AC := rfl
@[simp] theorem answer_MLEN (a : Response) (s : State) : (answer a s).MLEN = s.MLEN := rfl
@[simp] theorem answer_CLEN (a : Response) (s : State) : (answer a s).CLEN = s.CLEN := rfl
@[simp] theorem answer_MHASH (a : Response) (s : State) : (answer a s).MHASH = s.MHASH := rfl
@[simp] theorem answer_BLKIDX (a : Response) (s : State) : (answer a s).BLKIDX = s.BLKIDX := rfl
@[simp] theorem answer_NROUNDS (a : Response) (s : State) : (answer a s).NROUNDS = s.NROUNDS := rfl
@[simp] theorem answer_IE (a : Response) (s : State) : (answer a s).IE = s.IE := rfl
@[simp] theorem answer_DONE (a : Response) (s : State) : (answer a s).DONE = s.DONE := rfl
@[simp] theorem answer_PHASE (a : Response) (s : State) : (answer a s).PHASE = s.PHASE := rfl
@[simp] theorem answer_VAR (a : Response) (s : State) : (answer a s).VAR = s.VAR := rfl
@[simp] theorem answer_ERR_ILL (a : Response) (s : State) : (answer a s).ERR_ILL = s.ERR_ILL := rfl
@[simp] theorem answer_ERR_SEQ (a : Response) (s : State) : (answer a s).ERR_SEQ = s.ERR_SEQ := rfl
@[simp] theorem answer_ERR_BUSY (a : Response) (s : State) : (answer a s).ERR_BUSY = s.ERR_BUSY := rfl
@[simp] theorem answer_inflight (a : Response) (s : State) : (answer a s).inflight = s.inflight := rfl
@[simp] theorem answer_host (a : Response) (s : State) :
    (answer a s).host = { s.host with response := some a } := rfl
@[simp] theorem answer_busy (a : Response) (s : State) : (answer a s).busy = s.busy := rfl

/-! #### `drawBusyRead s` -/

@[simp] theorem drawBusyRead_cfg (s : State) : (drawBusyRead s).cfg = s.cfg := rfl
@[simp] theorem drawBusyRead_S (s : State) : (drawBusyRead s).S = s.S := rfl
@[simp] theorem drawBusyRead_work (s : State) : (drawBusyRead s).work = s.work := rfl
@[simp] theorem drawBusyRead_B (s : State) : (drawBusyRead s).B = s.B := rfl
@[simp] theorem drawBusyRead_W (s : State) : (drawBusyRead s).W = s.W := rfl
@[simp] theorem drawBusyRead_AC (s : State) : (drawBusyRead s).AC = s.AC := rfl
@[simp] theorem drawBusyRead_MLEN (s : State) : (drawBusyRead s).MLEN = s.MLEN := rfl
@[simp] theorem drawBusyRead_CLEN (s : State) : (drawBusyRead s).CLEN = s.CLEN := rfl
@[simp] theorem drawBusyRead_MHASH (s : State) : (drawBusyRead s).MHASH = s.MHASH := rfl
@[simp] theorem drawBusyRead_BLKIDX (s : State) : (drawBusyRead s).BLKIDX = s.BLKIDX := rfl
@[simp] theorem drawBusyRead_NROUNDS (s : State) : (drawBusyRead s).NROUNDS = s.NROUNDS := rfl
@[simp] theorem drawBusyRead_IE (s : State) : (drawBusyRead s).IE = s.IE := rfl
@[simp] theorem drawBusyRead_DONE (s : State) : (drawBusyRead s).DONE = s.DONE := rfl
@[simp] theorem drawBusyRead_PHASE (s : State) : (drawBusyRead s).PHASE = s.PHASE := rfl
@[simp] theorem drawBusyRead_VAR (s : State) : (drawBusyRead s).VAR = s.VAR := rfl
@[simp] theorem drawBusyRead_ERR_ILL (s : State) : (drawBusyRead s).ERR_ILL = s.ERR_ILL := rfl
@[simp] theorem drawBusyRead_ERR_SEQ (s : State) : (drawBusyRead s).ERR_SEQ = s.ERR_SEQ := rfl
@[simp] theorem drawBusyRead_ERR_BUSY (s : State) : (drawBusyRead s).ERR_BUSY = s.ERR_BUSY := rfl
@[simp] theorem drawBusyRead_inflight (s : State) : (drawBusyRead s).inflight = s.inflight := rfl
@[simp] theorem drawBusyRead_host (s : State) :
    (drawBusyRead s).host = ⟨s.host.turns, some (.data (Config.busyRead s.host.draws)), s.host.draws + 1⟩ := rfl
@[simp] theorem drawBusyRead_busy (s : State) : (drawBusyRead s).busy = s.busy := rfl

/-! #### `withTurns ts s` -/

@[simp] theorem withTurns_cfg (ts : List Turn) (s : State) : (withTurns ts s).cfg = s.cfg := rfl
@[simp] theorem withTurns_S (ts : List Turn) (s : State) : (withTurns ts s).S = s.S := rfl
@[simp] theorem withTurns_work (ts : List Turn) (s : State) : (withTurns ts s).work = s.work := rfl
@[simp] theorem withTurns_B (ts : List Turn) (s : State) : (withTurns ts s).B = s.B := rfl
@[simp] theorem withTurns_W (ts : List Turn) (s : State) : (withTurns ts s).W = s.W := rfl
@[simp] theorem withTurns_AC (ts : List Turn) (s : State) : (withTurns ts s).AC = s.AC := rfl
@[simp] theorem withTurns_MLEN (ts : List Turn) (s : State) : (withTurns ts s).MLEN = s.MLEN := rfl
@[simp] theorem withTurns_CLEN (ts : List Turn) (s : State) : (withTurns ts s).CLEN = s.CLEN := rfl
@[simp] theorem withTurns_MHASH (ts : List Turn) (s : State) : (withTurns ts s).MHASH = s.MHASH := rfl
@[simp] theorem withTurns_BLKIDX (ts : List Turn) (s : State) : (withTurns ts s).BLKIDX = s.BLKIDX := rfl
@[simp] theorem withTurns_NROUNDS (ts : List Turn) (s : State) : (withTurns ts s).NROUNDS = s.NROUNDS := rfl
@[simp] theorem withTurns_IE (ts : List Turn) (s : State) : (withTurns ts s).IE = s.IE := rfl
@[simp] theorem withTurns_DONE (ts : List Turn) (s : State) : (withTurns ts s).DONE = s.DONE := rfl
@[simp] theorem withTurns_PHASE (ts : List Turn) (s : State) : (withTurns ts s).PHASE = s.PHASE := rfl
@[simp] theorem withTurns_VAR (ts : List Turn) (s : State) : (withTurns ts s).VAR = s.VAR := rfl
@[simp] theorem withTurns_ERR_ILL (ts : List Turn) (s : State) : (withTurns ts s).ERR_ILL = s.ERR_ILL := rfl
@[simp] theorem withTurns_ERR_SEQ (ts : List Turn) (s : State) : (withTurns ts s).ERR_SEQ = s.ERR_SEQ := rfl
@[simp] theorem withTurns_ERR_BUSY (ts : List Turn) (s : State) :
    (withTurns ts s).ERR_BUSY = s.ERR_BUSY := rfl
@[simp] theorem withTurns_inflight (ts : List Turn) (s : State) :
    (withTurns ts s).inflight = s.inflight := rfl
@[simp] theorem withTurns_host (ts : List Turn) (s : State) :
    (withTurns ts s).host = { s.host with turns := ts } := rfl
@[simp] theorem withTurns_busy (ts : List Turn) (s : State) : (withTurns ts s).busy = s.busy := rfl

/-! #### `initEffect v liv s` -/

@[simp] theorem initEffect_cfg (v : Variant) (liv : Bool) (s : State) :
    (initEffect v liv s).cfg = s.cfg := rfl
@[simp] theorem initEffect_S (v : Variant) (liv : Bool) (s : State) :
    (initEffect v liv s).S = (if liv then ivOf s.cfg v else s.S) := rfl
@[simp] theorem initEffect_work (v : Variant) (liv : Bool) (s : State) :
    (initEffect v liv s).work = s.work := rfl
@[simp] theorem initEffect_B (v : Variant) (liv : Bool) (s : State) : (initEffect v liv s).B = s.B := rfl
@[simp] theorem initEffect_W (v : Variant) (liv : Bool) (s : State) : (initEffect v liv s).W = s.W := rfl
@[simp] theorem initEffect_AC (v : Variant) (liv : Bool) (s : State) :
    (initEffect v liv s).AC = (if v = .A then mkTable s.cfg (adaptive s) else s.AC) := rfl
@[simp] theorem initEffect_MLEN (v : Variant) (liv : Bool) (s : State) :
    (initEffect v liv s).MLEN = s.MLEN := rfl
@[simp] theorem initEffect_CLEN (v : Variant) (liv : Bool) (s : State) :
    (initEffect v liv s).CLEN = s.CLEN := rfl
@[simp] theorem initEffect_MHASH (v : Variant) (liv : Bool) (s : State) :
    (initEffect v liv s).MHASH = s.MHASH := rfl
@[simp] theorem initEffect_BLKIDX (v : Variant) (liv : Bool) (s : State) :
    (initEffect v liv s).BLKIDX = 0 := rfl
@[simp] theorem initEffect_NROUNDS (v : Variant) (liv : Bool) (s : State) :
    (initEffect v liv s).NROUNDS = BitVec.ofNat 64 (roundCount s.CLEN v) := rfl
@[simp] theorem initEffect_IE (v : Variant) (liv : Bool) (s : State) : (initEffect v liv s).IE = s.IE := rfl
@[simp] theorem initEffect_DONE (v : Variant) (liv : Bool) (s : State) :
    (initEffect v liv s).DONE = s.DONE := rfl
@[simp] theorem initEffect_PHASE (v : Variant) (liv : Bool) (s : State) :
    (initEffect v liv s).PHASE = s.PHASE := rfl
@[simp] theorem initEffect_VAR (v : Variant) (liv : Bool) (s : State) : (initEffect v liv s).VAR = v := rfl
@[simp] theorem initEffect_ERR_ILL (v : Variant) (liv : Bool) (s : State) :
    (initEffect v liv s).ERR_ILL = s.ERR_ILL := rfl
@[simp] theorem initEffect_ERR_SEQ (v : Variant) (liv : Bool) (s : State) :
    (initEffect v liv s).ERR_SEQ = s.ERR_SEQ := rfl
@[simp] theorem initEffect_ERR_BUSY (v : Variant) (liv : Bool) (s : State) :
    (initEffect v liv s).ERR_BUSY = s.ERR_BUSY := rfl
@[simp] theorem initEffect_inflight (v : Variant) (liv : Bool) (s : State) :
    (initEffect v liv s).inflight = s.inflight := rfl
@[simp] theorem initEffect_host (v : Variant) (liv : Bool) (s : State) :
    (initEffect v liv s).host = s.host := rfl
@[simp] theorem initEffect_busy (v : Variant) (liv : Bool) (s : State) : (initEffect v liv s).busy = s.busy := rfl

/-! #### `clearEffect s` -/

@[simp] theorem clearEffect_cfg (s : State) : (clearEffect s).cfg = s.cfg := rfl
@[simp] theorem clearEffect_S (s : State) : (clearEffect s).S = Vector.replicate 8 0 := rfl
@[simp] theorem clearEffect_work (s : State) : (clearEffect s).work = ⟨0, 0, 0, 0, 0, 0, 0, 0⟩ := rfl
@[simp] theorem clearEffect_B (s : State) : (clearEffect s).B = Vector.replicate 16 0 := rfl
@[simp] theorem clearEffect_W (s : State) : (clearEffect s).W = Vector.replicate 100 0 := rfl
@[simp] theorem clearEffect_AC (s : State) : (clearEffect s).AC = mkTable s.cfg (fun _ => 0) := rfl
@[simp] theorem clearEffect_MLEN (s : State) : (clearEffect s).MLEN = 0 := rfl
@[simp] theorem clearEffect_CLEN (s : State) : (clearEffect s).CLEN = 0 := rfl
@[simp] theorem clearEffect_MHASH (s : State) : (clearEffect s).MHASH = 0 := rfl
@[simp] theorem clearEffect_BLKIDX (s : State) : (clearEffect s).BLKIDX = 0 := rfl
@[simp] theorem clearEffect_NROUNDS (s : State) : (clearEffect s).NROUNDS = 0 := rfl
@[simp] theorem clearEffect_IE (s : State) : (clearEffect s).IE = s.IE := rfl
@[simp] theorem clearEffect_DONE (s : State) : (clearEffect s).DONE = s.DONE := rfl
@[simp] theorem clearEffect_PHASE (s : State) : (clearEffect s).PHASE = s.PHASE := rfl
@[simp] theorem clearEffect_VAR (s : State) : (clearEffect s).VAR = .A := rfl
@[simp] theorem clearEffect_ERR_ILL (s : State) : (clearEffect s).ERR_ILL = false := rfl
@[simp] theorem clearEffect_ERR_SEQ (s : State) : (clearEffect s).ERR_SEQ = false := rfl
@[simp] theorem clearEffect_ERR_BUSY (s : State) : (clearEffect s).ERR_BUSY = false := rfl
@[simp] theorem clearEffect_inflight (s : State) : (clearEffect s).inflight = s.inflight := rfl
@[simp] theorem clearEffect_host (s : State) : (clearEffect s).host = s.host := rfl
@[simp] theorem clearEffect_busy (s : State) : (clearEffect s).busy = s.busy := rfl

/-! #### `schedEffect s` -/

@[simp] theorem schedEffect_cfg (s : State) : (schedEffect s).cfg = s.cfg := rfl
@[simp] theorem schedEffect_S (s : State) : (schedEffect s).S = s.S := rfl
@[simp] theorem schedEffect_work (s : State) : (schedEffect s).work = s.work := rfl
@[simp] theorem schedEffect_B (s : State) : (schedEffect s).B = s.B := rfl
@[simp] theorem schedEffect_W (s : State) : (schedEffect s).W = schedule s.VAR s.B s.W := rfl
@[simp] theorem schedEffect_AC (s : State) : (schedEffect s).AC = s.AC := rfl
@[simp] theorem schedEffect_MLEN (s : State) : (schedEffect s).MLEN = s.MLEN := rfl
@[simp] theorem schedEffect_CLEN (s : State) : (schedEffect s).CLEN = s.CLEN := rfl
@[simp] theorem schedEffect_MHASH (s : State) : (schedEffect s).MHASH = s.MHASH := rfl
@[simp] theorem schedEffect_BLKIDX (s : State) : (schedEffect s).BLKIDX = s.BLKIDX := rfl
@[simp] theorem schedEffect_NROUNDS (s : State) : (schedEffect s).NROUNDS = s.NROUNDS := rfl
@[simp] theorem schedEffect_IE (s : State) : (schedEffect s).IE = s.IE := rfl
@[simp] theorem schedEffect_DONE (s : State) : (schedEffect s).DONE = s.DONE := rfl
@[simp] theorem schedEffect_PHASE (s : State) : (schedEffect s).PHASE = s.PHASE := rfl
@[simp] theorem schedEffect_VAR (s : State) : (schedEffect s).VAR = s.VAR := rfl
@[simp] theorem schedEffect_ERR_ILL (s : State) : (schedEffect s).ERR_ILL = s.ERR_ILL := rfl
@[simp] theorem schedEffect_ERR_SEQ (s : State) : (schedEffect s).ERR_SEQ = s.ERR_SEQ := rfl
@[simp] theorem schedEffect_ERR_BUSY (s : State) : (schedEffect s).ERR_BUSY = s.ERR_BUSY := rfl
@[simp] theorem schedEffect_inflight (s : State) : (schedEffect s).inflight = s.inflight := rfl
@[simp] theorem schedEffect_host (s : State) : (schedEffect s).host = s.host := rfl
@[simp] theorem schedEffect_busy (s : State) : (schedEffect s).busy = s.busy := rfl

/-! #### `roundsEffect s` -/

@[simp] theorem roundsEffect_cfg (s : State) : (roundsEffect s).cfg = s.cfg := rfl
@[simp] theorem roundsEffect_S (s : State) : (roundsEffect s).S = (runRounds s s.NROUNDS.toNat).S := rfl
@[simp] theorem roundsEffect_work (s : State) :
    (roundsEffect s).work = (runRounds s s.NROUNDS.toNat).work := rfl
@[simp] theorem roundsEffect_B (s : State) : (roundsEffect s).B = s.B := rfl
@[simp] theorem roundsEffect_W (s : State) : (roundsEffect s).W = s.W := rfl
@[simp] theorem roundsEffect_AC (s : State) : (roundsEffect s).AC = s.AC := rfl
@[simp] theorem roundsEffect_MLEN (s : State) : (roundsEffect s).MLEN = s.MLEN := rfl
@[simp] theorem roundsEffect_CLEN (s : State) : (roundsEffect s).CLEN = s.CLEN := rfl
@[simp] theorem roundsEffect_MHASH (s : State) : (roundsEffect s).MHASH = s.MHASH := rfl
@[simp] theorem roundsEffect_BLKIDX (s : State) : (roundsEffect s).BLKIDX = s.BLKIDX := rfl
@[simp] theorem roundsEffect_NROUNDS (s : State) : (roundsEffect s).NROUNDS = s.NROUNDS := rfl
@[simp] theorem roundsEffect_IE (s : State) : (roundsEffect s).IE = s.IE := rfl
@[simp] theorem roundsEffect_DONE (s : State) : (roundsEffect s).DONE = s.DONE := rfl
@[simp] theorem roundsEffect_PHASE (s : State) : (roundsEffect s).PHASE = s.PHASE := rfl
@[simp] theorem roundsEffect_VAR (s : State) : (roundsEffect s).VAR = s.VAR := rfl
@[simp] theorem roundsEffect_ERR_ILL (s : State) : (roundsEffect s).ERR_ILL = s.ERR_ILL := rfl
@[simp] theorem roundsEffect_ERR_SEQ (s : State) : (roundsEffect s).ERR_SEQ = s.ERR_SEQ := rfl
@[simp] theorem roundsEffect_ERR_BUSY (s : State) : (roundsEffect s).ERR_BUSY = s.ERR_BUSY := rfl
@[simp] theorem roundsEffect_inflight (s : State) : (roundsEffect s).inflight = s.inflight := rfl
@[simp] theorem roundsEffect_host (s : State) : (roundsEffect s).host = s.host := rfl
@[simp] theorem roundsEffect_busy (s : State) : (roundsEffect s).busy = s.busy := rfl

/-! #### `foldEffect s` -/

@[simp] theorem foldEffect_cfg (s : State) : (foldEffect s).cfg = s.cfg := rfl
@[simp] theorem foldEffect_S (s : State) : (foldEffect s).S = foldLanes s.VAR s.work s.S := rfl
@[simp] theorem foldEffect_work (s : State) : (foldEffect s).work = s.work := rfl
@[simp] theorem foldEffect_B (s : State) : (foldEffect s).B = s.B := rfl
@[simp] theorem foldEffect_W (s : State) : (foldEffect s).W = s.W := rfl
@[simp] theorem foldEffect_AC (s : State) : (foldEffect s).AC = s.AC := rfl
@[simp] theorem foldEffect_MLEN (s : State) : (foldEffect s).MLEN = s.MLEN := rfl
@[simp] theorem foldEffect_CLEN (s : State) : (foldEffect s).CLEN = s.CLEN := rfl
@[simp] theorem foldEffect_MHASH (s : State) : (foldEffect s).MHASH = s.MHASH := rfl
@[simp] theorem foldEffect_BLKIDX (s : State) : (foldEffect s).BLKIDX = s.BLKIDX + 1 := rfl
@[simp] theorem foldEffect_NROUNDS (s : State) : (foldEffect s).NROUNDS = s.NROUNDS := rfl
@[simp] theorem foldEffect_IE (s : State) : (foldEffect s).IE = s.IE := rfl
@[simp] theorem foldEffect_DONE (s : State) : (foldEffect s).DONE = s.DONE := rfl
@[simp] theorem foldEffect_PHASE (s : State) : (foldEffect s).PHASE = s.PHASE := rfl
@[simp] theorem foldEffect_VAR (s : State) : (foldEffect s).VAR = s.VAR := rfl
@[simp] theorem foldEffect_ERR_ILL (s : State) : (foldEffect s).ERR_ILL = s.ERR_ILL := rfl
@[simp] theorem foldEffect_ERR_SEQ (s : State) : (foldEffect s).ERR_SEQ = s.ERR_SEQ := rfl
@[simp] theorem foldEffect_ERR_BUSY (s : State) : (foldEffect s).ERR_BUSY = s.ERR_BUSY := rfl
@[simp] theorem foldEffect_inflight (s : State) : (foldEffect s).inflight = s.inflight := rfl
@[simp] theorem foldEffect_host (s : State) : (foldEffect s).host = s.host := rfl
@[simp] theorem foldEffect_busy (s : State) : (foldEffect s).busy = s.busy := rfl

/-! #### `finalEffect s` -/

@[simp] theorem finalEffect_cfg (s : State) : (finalEffect s).cfg = s.cfg := rfl
@[simp] theorem finalEffect_S (s : State) : (finalEffect s).S = finalLanes s.cfg s.VAR s.S := rfl
@[simp] theorem finalEffect_work (s : State) : (finalEffect s).work = s.work := rfl
@[simp] theorem finalEffect_B (s : State) : (finalEffect s).B = s.B := rfl
@[simp] theorem finalEffect_W (s : State) : (finalEffect s).W = s.W := rfl
@[simp] theorem finalEffect_AC (s : State) : (finalEffect s).AC = s.AC := rfl
@[simp] theorem finalEffect_MLEN (s : State) : (finalEffect s).MLEN = s.MLEN := rfl
@[simp] theorem finalEffect_CLEN (s : State) : (finalEffect s).CLEN = s.CLEN := rfl
@[simp] theorem finalEffect_MHASH (s : State) : (finalEffect s).MHASH = s.MHASH := rfl
@[simp] theorem finalEffect_BLKIDX (s : State) : (finalEffect s).BLKIDX = s.BLKIDX := rfl
@[simp] theorem finalEffect_NROUNDS (s : State) : (finalEffect s).NROUNDS = s.NROUNDS := rfl
@[simp] theorem finalEffect_IE (s : State) : (finalEffect s).IE = s.IE := rfl
@[simp] theorem finalEffect_DONE (s : State) : (finalEffect s).DONE = s.DONE := rfl
@[simp] theorem finalEffect_PHASE (s : State) : (finalEffect s).PHASE = s.PHASE := rfl
@[simp] theorem finalEffect_VAR (s : State) : (finalEffect s).VAR = s.VAR := rfl
@[simp] theorem finalEffect_ERR_ILL (s : State) : (finalEffect s).ERR_ILL = s.ERR_ILL := rfl
@[simp] theorem finalEffect_ERR_SEQ (s : State) : (finalEffect s).ERR_SEQ = s.ERR_SEQ := rfl
@[simp] theorem finalEffect_ERR_BUSY (s : State) : (finalEffect s).ERR_BUSY = s.ERR_BUSY := rfl
@[simp] theorem finalEffect_inflight (s : State) : (finalEffect s).inflight = s.inflight := rfl
@[simp] theorem finalEffect_host (s : State) : (finalEffect s).host = s.host := rfl
@[simp] theorem finalEffect_busy (s : State) : (finalEffect s).busy = s.busy := rfl

end Sys2Proof.Machine
end

