-- ==== Sys2Proof/Laws/Ops.lean ====
section
/-! SUPPORT. One lemma per shared operation that says everything it can do; proofs cite these instead of
unfolding the operation. -/

namespace Sys2Proof.Machine

/-- What a command's rule does to the state, but for the phase and the end of the command. -/
def effectOf : Instr → State → State
  | .nop => id
  | .initA liv => initEffect .A liv
  | .initB liv => initEffect .B liv
  | .initC liv => initEffect .C liv
  | .initD liv => initEffect .D liv
  | .sched => schedEffect
  | .rounds => roundsEffect
  | .fold => foldEffect
  | .block => blockEffect
  | .final => finalEffect
  | .clear => clearEffect

/-- Every command is its rule inside the frame of R120. -/
theorem exec_eq_runCommand (i : Instr) (s : State) :
    exec i s = .next (runCommand i (effectOf i) s) := by
  cases i <;> rfl

/-- A command in a phase the table allows: its rule, the phase of the table, the end of the command. -/
theorem runCommand_of_phase {i : Instr} {f : State → State} {s : State} {p : Phase}
    (h : phaseNext i s.PHASE = some p) : runCommand i f s = retire { f s with PHASE := p } := by
  simp [runCommand, h]

/-- A command out of phase: ERR_SEQ and the end of the command. -/
theorem runCommand_out_of_phase {i : Instr} {f : State → State} {s : State}
    (h : phaseNext i s.PHASE = none) : runCommand i f s = errored .seq s := by
  simp [runCommand, h]

/-- All `runCommand` can do. -/
theorem runCommand_cases (i : Instr) (f : State → State) (s : State) :
    (phaseNext i s.PHASE = none ∧ runCommand i f s = errored .seq s) ∨
      ∃ p, phaseNext i s.PHASE = some p ∧ runCommand i f s = retire { f s with PHASE := p } := by
  cases h : phaseNext i s.PHASE with
  | none => exact .inl ⟨rfl, runCommand_out_of_phase h⟩
  | some p => exact .inr ⟨p, rfl, runCommand_of_phase h⟩

/-- All an `exec` that answers can have done: the command's rule in its frame. -/
theorem exec_next {i : Instr} {s t : State} (h : exec i s = .next t) :
    t = runCommand i (effectOf i) s := by
  rw [exec_eq_runCommand] at h
  exact (Host.Outcome.next.inj h).symm

/-- All a host read can do: a bus error, a draw while busy, or the value of the register. -/
theorem memRead_cases (off : Offset) (n : Nat) (s : State) :
    (target off n = none ∧ memRead off n s = answer .busError s) ∨
      (∃ r, target off n = some r ∧ s.busy = true ∧ readsWhileBusy r = false
        ∧ memRead off n s = drawBusyRead s) ∨
      ∃ r, target off n = some r ∧ (s.busy = false ∨ readsWhileBusy r = true)
        ∧ memRead off n s = answer (.data (readReg s r)) s := by
  unfold memRead
  cases target off n with
  | none => exact .inl ⟨rfl, rfl⟩
  | some r => cases hb : s.busy <;> cases hr : readsWhileBusy r <;> simp [hr]

/-- All a host write can do: a bus error, a dropped write while busy, or the register's own effect. -/
theorem memWrite_cases (off : Offset) (n : Nat) (v : Word) (s : State) :
    (target off n = none ∧ memWrite off n v s = answer .busError s) ∨
      (∃ r, target off n = some r ∧ s.busy = true
        ∧ memWrite off n v s = answer .ok (raiseErr .busy s)) ∨
      ∃ r, target off n = some r ∧ s.busy = false
        ∧ memWrite off n v s = answer .ok (writeReg v s r) := by
  unfold memWrite
  cases target off n with
  | none => exact .inl ⟨rfl, rfl⟩
  | some r => cases hb : s.busy <;> simp

/-- All the core's turn can do: nothing, ERR_ILL, or the command in flight. -/
theorem complete_cases (s : State) :
    (s.inflight = none ∧ complete s = .next s) ∨
      (∃ c e, s.inflight = some c ∧ decode c = .error e ∧ complete s = .next (errored .ill s)) ∨
      ∃ c i, s.inflight = some c ∧ decode c = .ok i ∧ complete s = exec i s := by
  unfold complete
  cases s.inflight with
  | none => exact .inl ⟨rfl, rfl⟩
  | some c =>
    cases hd : decode c with
    | error e => exact .inr (.inl ⟨c, e, rfl, hd, by simp [hd]⟩)
    | ok i => exact .inr (.inr ⟨c, i, rfl, hd, by simp [hd]⟩)

/-- All a step can do: the first turn waiting is taken, and with none waiting the core acts. -/
theorem step_cases (s : State) :
    (s.host.turns = [] ∧ step s = complete s) ∨
      (∃ ts, s.host.turns = .core :: ts ∧ step s = complete (withTurns ts s)) ∨
      (∃ acc ts, s.host.turns = .host acc :: ts ∧ step s = .next (access acc (withTurns ts s))) ∨
      ∃ ts, s.host.turns = .reset :: ts ∧ step s = .next (resetInput (withTurns ts s)) := by
  unfold step
  cases s.host.turns with
  | nil => exact .inl ⟨rfl, rfl⟩
  | cons t ts =>
    cases t with
    | core => exact .inr (.inl ⟨ts, rfl, rfl⟩)
    | host acc => exact .inr (.inr (.inl ⟨acc, ts, rfl, rfl⟩))
    | reset => exact .inr (.inr (.inr ⟨ts, rfl, rfl⟩))

end Sys2Proof.Machine
end

