-- ==== Sys2Proof/Laws/PerInstr.lean ====
section
/-! SUPPORT. Statements made per command: the word of every command passes the spec's own check of R75. -/

namespace Sys2Proof.Laws.EncodedWordLegal

/-- R75: the command's word is a legal encoding. -/
def Statement (i : Instr) : Prop := legalWord (encode i) = true

theorem nop : Statement .nop := rfl
theorem initA (liv : Bool) : Statement (.initA liv) := by cases liv <;> rfl
theorem initB (liv : Bool) : Statement (.initB liv) := by cases liv <;> rfl
theorem initC (liv : Bool) : Statement (.initC liv) := by cases liv <;> rfl
theorem initD (liv : Bool) : Statement (.initD liv) := by cases liv <;> rfl
theorem sched : Statement .sched := rfl
theorem rounds : Statement .rounds := rfl
theorem fold : Statement .fold := rfl
theorem block : Statement .block := rfl
theorem final : Statement .final := rfl
theorem clear : Statement .clear := rfl

end Sys2Proof.Laws.EncodedWordLegal
end

