-- ==== Sys2Proof/Laws/Protocol.lean ====
section
/-! SUPPORT. Small lemmas about the blocks and the script of a message. -/

namespace Sys2Proof.Machine

/-- R239: the extra block is one more block, wherever it stands. -/
@[simp] theorem insertBlock_length (e : ExtraBlock) (bl : List (List Word)) :
    (insertBlock e bl).length = bl.length + 1 := by
  simp [insertBlock]
  omega

/-- R239: the blocks after the extra block is put in are the old ones and its own eight words. -/
@[simp] theorem mem_insertBlock (e : ExtraBlock) (bl : List (List Word)) (b : List Word) :
    b ∈ insertBlock e bl ↔ b = e.words.toList ∨ b ∈ bl := by
  have h : b ∈ bl ↔ b ∈ bl.take e.position ∨ b ∈ bl.drop e.position := by
    rw [← List.mem_append, List.take_append_drop]
  simp only [insertBlock, List.mem_append, List.mem_singleton, h]
  tauto

/-- R239: all that `withExtraBlock` can do to the number of blocks. -/
theorem withExtraBlock_length (dfb : Nat → ExtraBlock) (l : Nat) (bl : List (List Word)) :
    (withExtraBlock dfb l bl).length = bl.length + if l ≠ 0 ∧ l % 64 = 0 then 1 else 0 := by
  unfold withExtraBlock
  split <;> simp_all [PadMode.blockBytes]

/-- R241: with no length mix the host writes no word of `S`. -/
theorem stateStmts_no_mix (c : Cfg) (v : Variant) : stateStmts c v (fun _ => 0) = [] := by
  simp [stateStmts]

/-- R55, R62: a poll answers STATUS, busy or not, and changes nothing else. -/
theorem poll_eq (s : State) : poll s = answer (.data (statusWord s)) s := by
  have h : target (offsetOf .status) 8 = some .status := by decide
  simp [poll, pollAccess, access, memRead, h, readsWhileBusy, readReg]

@[simp] theorem poll_inflight (s : State) : (poll s).inflight = s.inflight := by rw [poll_eq]; rfl
@[simp] theorem poll_turns (s : State) : (poll s).host.turns = s.host.turns := by rw [poll_eq]; rfl

/-- R30, R82: the poll reads BUSY as it is. -/
@[simp] theorem answeredBusy_poll (s : State) : answeredBusy (poll s) = s.busy := by
  rw [poll_eq]
  show (statusWord s).getLsbD 0 = s.busy
  rw [statusWord, BitVec.getLsbD_append]
  simp

/-- R82: with a command in flight one more poll comes before the completion. -/
theorem waitLoop_busy (n : Nat) (s : State) (h : s.inflight ≠ none) :
    waitLoop (n + 1) s = waitLoop n (poll s) := by
  simp [waitLoop, State.busy, Option.isSome_iff_ne_none, h]

/-- R82: with no command in flight the first poll ends the loop. -/
theorem waitLoop_idle (n : Nat) (s : State) (h : s.inflight = none) : waitLoop n s = .next (poll s) := by
  cases n <;> simp [waitLoop, complete, State.busy, h]

/-- R82: the turns of a wait: the polls before the completion, the completion and the last poll, or the one poll. -/
@[simp] theorem waitTurns_length (pending : Bool) (n : Nat) :
    (waitTurns pending n).length = if pending then n + 2 else 1 := by
  cases pending <;> simp [waitTurns]

end Sys2Proof.Machine
end

