-- ==== Sys2Proof/Tests/T0.lean ====
section
/-! SUPPORT. The test configuration T0 of 95_test_vectors.md, section 0, and small states built on it. T0 is
the spec's own and is not the repository's data. -/

namespace Sys2Proof.Tests

open Sys2Proof.Machine

/-- T0: a table of `(i + 1) * m` for `i` below `n`. -/
def multiples (m : Word) (n : Nat) : Table :=
  ⟨m, (List.range (n - 1)).map fun i => BitVec.ofNat 64 (i + 2) * m⟩

/-- T0: `IV[i] = rol(0x0123456789ABCDEF, 8*i)`, the same for every variant. -/
def t0iv : Lanes := Vector.ofFn fun i : Fin 8 => rol 0x0123456789ABCDEF (8 * i.val)

/-- T0: `T[i] = (7*i + 3) mod 256`, the same for both variants. -/
def t0sbox : Vector Byte 232 := Vector.ofFn fun i : Fin 232 => BitVec.ofNat 8 (7 * i.val + 3)

/-- T0: `PBOX[i] = (5 * (i*(i+1)/2) + 3) mod 64`. -/
def t0pbox : Vector Nat 64 := Vector.ofFn fun i : Fin 64 => (5 * (i.val * (i.val + 1) / 2) + 3) % 64

/-- The test configuration T0. -/
def t0 : Cfg where
  ivA := t0iv
  ivB := t0iv
  ivC := t0iv
  ivD := t0iv
  base := multiples 0x0101010101010101 5
  kb := multiples 0x1111111111111111 3
  rcc := multiples 0x0F0F0F0F0F0F0F0F 7
  rcd := multiples 0x00FF00FF00FF00FF 6
  sboxC := t0sbox
  sboxD := t0sbox
  pbox := t0pbox

/-- The core of configuration T0 after CLEAR, idle, with no turn waiting: every register 0, `W` and `AC`
too. -/
def blank : State :=
  { State.resetWith t0 0 ⟨[], none, 1⟩ with
    W := Vector.replicate 100 0
    AC := ⟨0, [0, 0, 0, 0]⟩ }

/-- `blank` in a given phase under a given variant. -/
def blankIn (p : Phase) (v : Variant) : State := { blank with PHASE := p, VAR := v }

end Sys2Proof.Tests
end

