-- ==== Sys2Proof/Tests/Slice0.lean ====
section
/-! SUPPORT. Small tests on values of the spec, and for every statement with hypotheses a concrete state and
operands that meet them. The expected values are those of 30_encoding.md R81, of the examples of 40 to 45, and of
95_test_vectors.md, under its configuration T0. -/

namespace Sys2Proof.Tests

-- One theorem at a time: each `decide +kernel` waits for the kernel, and some dozens of them waiting at once
-- reserve more thread stacks than the memory limit of the check allows.
set_option Elab.async false

open Sys2Proof.Machine

/-- The state a command ends in (every outcome of `exec` is a next state). -/
def after (i : Instr) (s : State) : State :=
  match exec i s with
  | .next t => t
  | .fault _ => s
  | .refused _ => s

/-- `s` with the given turns to come. -/
def withHost (ts : List Turn) (s : State) : State := { s with host := { s.host with turns := ts } }

/-- The state after `k` steps. -/
def stateAfter (k : Nat) (s : State) : State :=
  match Host.Core.run core k s with
  | .next t => t
  | .fault _ => s
  | .refused _ => s

/-! ### Encodings (R81, V50) -/

theorem test_decode_nop : decode 0x000 = .ok .nop := by decide
theorem test_decode_initA : decode 0x001 = .ok (.initA false) ∧ decode 0x101 = .ok (.initA true) := by decide
theorem test_decode_initB : decode 0x011 = .ok (.initB false) ∧ decode 0x111 = .ok (.initB true) := by decide
theorem test_decode_initC : decode 0x021 = .ok (.initC false) ∧ decode 0x121 = .ok (.initC true) := by decide
theorem test_decode_initD : decode 0x031 = .ok (.initD false) ∧ decode 0x131 = .ok (.initD true) := by decide
theorem test_decode_sched : decode 0x002 = .ok .sched := by decide
theorem test_decode_rounds : decode 0x003 = .ok .rounds := by decide
theorem test_decode_fold : decode 0x004 = .ok .fold := by decide
theorem test_decode_block : decode 0x005 = .ok .block := by decide
theorem test_decode_final : decode 0x006 = .ok .final := by decide
theorem test_decode_clear : decode 0x007 = .ok .clear := by decide

/-- Bit by bit: `INIT.C liv` has LIV at bit 8, VAR = 2 at bits 5:4, OP = 1 at bits 3:0. -/
theorem test_decode_initC_bits : decode 0b100100001 = .ok (.initC true) := by decide

/-- V50: a reserved opcode, alone and with every reserved bit clear. -/
theorem test_reserved_opcode :
    decode 0x008 = .error .reservedOpcode ∧ decode 0x00F = .error .reservedOpcode := by decide

/-- V50: an operand on a command other than INIT. -/
theorem test_operand_on_non_init :
    decode 0x010 = .error .operandOnNonInit ∧ decode 0x012 = .error .operandOnNonInit ∧
    decode 0x014 = .error .operandOnNonInit ∧ decode 0x100 = .error .operandOnNonInit ∧
    decode 0x105 = .error .operandOnNonInit := by decide

/-- V50: a reserved bit. -/
theorem test_reserved_bits :
    decode 0x041 = .error .reservedBits ∧ decode 0x081 = .error .reservedBits ∧
    decode 0x201 = .error .reservedBits ∧ decode 0x0000000100000001 = .error .reservedBits ∧
    decode 0x8000000000000000 = .error .reservedBits ∧
    decode 0xFFFFFFFFFFFFFFFF = .error .reservedBits := by decide

/-- WellFormed smoke: one ill-formed word for each condition of R75: bits 63:9, bits 7:6 (each), the opcode, and
VAR and LIV outside INIT. -/
theorem test_legalWord_refuses :
    legalWord 0x200 = false ∧ legalWord 0x8000000000000001 = false ∧ legalWord 0x041 = false ∧
    legalWord 0x081 = false ∧ legalWord 0x008 = false ∧ legalWord 0x012 = false ∧
    legalWord 0x020 = false ∧ legalWord 0x100 = false := by decide

/-- R262: the legal words pass the check. -/
theorem test_legalWord_admits :
    ([0x000, 0x001, 0x011, 0x021, 0x031, 0x101, 0x111, 0x121, 0x131,
      0x002, 0x003, 0x004, 0x005, 0x006, 0x007] : List Word).all legalWord = true := by decide

theorem test_decodeTableWord :
    decodeTableWord 64 0x121 = some (.initC true) ∧ decodeTableWord 64 0x105 = none ∧
    decodeTableWord 16 0x10007 = some .clear ∧ decodeTableWord 72 (2 ^ 64) = none := by decide

/-! ### Primitives (the examples of 40_primitives.md and V1) -/

theorem test_rol : rol 0x0123456789ABCDEF 8 = 0x23456789ABCDEF01 ∧ rol 0x0123456789ABCDEF 63 = 0x8091A2B3C4D5E6F7
    ∧ rol 0x8000000000000001 1 = 0x3 := by decide
theorem test_ror : ror 0x0123456789ABCDEF 8 = 0xEF0123456789ABCD ∧ ror 0x8000000000000001 1 = 0xC000000000000000
    ∧ ror 0x0123456789ABCDEF 0 = 0x0123456789ABCDEF := by decide
theorem test_dyn : dyn 0x0123456789ABCDEF 13 0 = 0x6F78091A2B3C4D5E
    ∧ dyn 0x0123456789ABCDEF 13 1 = 0x68ACF13579BDE024 := by decide
theorem test_ch : ch 0xFF00FF00FF00FF00 0x1111111111111111 0x2222222222222222 = 0x1122112211221122 := by decide
theorem test_maj : maj 0xFF00FF00FF00FF00 0x0FF00FF00FF00FF0 0x00FF00FF00FF00FF = 0x0FF00FF00FF00FF0 := by decide
theorem test_avalanche : avalanche 1 = 0x5692161D100B05E5 ∧ avalanche 0x8000000000000000 = 0x64B8395AADE49B34 := by
  decide
theorem test_sbox : sbox t0sbox 0xE7E8E9FFFEFD0001 = 0x54030AA49D96030A
    ∧ sbox t0sbox 0x6162638000000000 = 0xAAB1B88303030303 := by decide +kernel
theorem test_bitrev64 : bitrev64 0x0123456789ABCDEF = 0xF7B3D591E6A2C480 := by decide +kernel
theorem test_pbox : pbox t0pbox t0iv 0 =
    #v[0xA2C480F7B3D591E6, 0xF7B3D591E6A2C480, 0xC480F7B3D591E6A2, 0x80F7B3D591E6A2C4,
       0x91E6A2C480F7B3D5, 0xD591E6A2C480F7B3, 0xE6A2C480F7B3D591, 0xB3D591E6A2C480F7] := by decide +kernel
theorem test_pidxB : (List.range 8).map pidxB = [3, 0, 5, 2, 7, 4, 1, 6] := by decide
theorem test_sext64 : sext64 0xD71FBDC0 = 0xFFFFFFFFD71FBDC0 ∧ sext64 0x7FFFFFFF = 0x7FFFFFFF := by decide
theorem test_flog : [1, 2, 3, 7, 8, 20, 21, 54, 55, 148, 149, 1001, 2 ^ 31, 2 ^ 64].map flog =
    [0, 0, 1, 1, 2, 2, 3, 3, 4, 4, 5, 6, 21, 44] := by decide

/-! ### Commands (V3 to V17) -/

/-- The phase READY under a variant, the hash state at the initial vector of T0. -/
def opened (v : Variant) : State := { blankIn .ready v with S := t0iv }

/-- R122: the example of INIT.A. -/
theorem test_initA :
    let t := after (.initA true) { blank with CLEN := 3, MLEN := 3, MHASH := 96354 }
    statusWord t = 0x06 ∧ t.NROUNDS = 150 ∧ t.S = t0iv ∧ t.AC.words =
      [0x0101010101007960, 0x0202020202037A66, 0x0303030303027B68, 0x0404040404057C6A, 0x0505050505047D68] := by
  decide +kernel

/-- V3: the largest round count, `CLEN + 1` as a natural number; V4: the wrapping product. -/
theorem test_initA_wraps :
    let t := after (.initA false) { blank with CLEN := 0xFFFFFFFFFFFFFFFF, MLEN := 0xFFFFFFFFFFFFFFFF }
    t.NROUNDS = 2300 ∧ t.S = Vector.replicate 8 0 ∧ t.AC.words =
      [0xFEFEFEFEFEFEFEFE, 0xFDFDFDFDFDFDFDFC, 0xFCFCFCFCFCFCFCFE, 0xFBFBFBFBFBFBFBF8, 0xFAFAFAFAFAFAFAFE] := by
  decide +kernel

/-- V3, V51. -/
theorem test_initB :
    let t := after (.initB true) { blank with CLEN := 1000, BLKIDX := 9 }
    statusWord t = 0x026 ∧ t.NROUNDS = 120 ∧ t.BLKIDX = 0 ∧ t.S = t0iv := by decide +kernel

/-- V5: INIT.C without `liv`. -/
theorem test_initC :
    let t := after (.initC false) blank
    statusWord t = 0x46 ∧ t.NROUNDS = 80 ∧ t.S = Vector.replicate 8 0 := by decide +kernel

/-- V5: INIT.D with `liv`. -/
theorem test_initD :
    let t := after (.initD true) blank
    statusWord t = 0x66 ∧ t.NROUNDS = 80 ∧ t.S = t0iv := by decide +kernel

/-- R121: NOP in READY leaves STATUS at 0x06. -/
theorem test_nop : statusWord (after .nop (blankIn .ready .A)) = 0x06 := by decide +kernel

/-- R125: CLEAR keeps CTRL and clears the flags. -/
theorem test_clear :
    let t := after .clear { opened .D with IE := true, ERR_SEQ := true, ERR_ILL := true, MLEN := 3 }
    statusWord t = 0x02 ∧ t.IE = true ∧ t.S = Vector.replicate 8 0 ∧ t.MLEN = 0 := by decide +kernel

/-- V6: the block `B[i] = i + 1`. -/
def pattern (v : Variant) : State :=
  { blankIn .ready v with B := Vector.ofFn fun i : Fin 16 => BitVec.ofNat 64 (i.val + 1) }

/-- V6, the rows of H-A and H-B. -/
theorem test_sched_AB :
    let a := (after .sched (pattern .A)).W
    let b := (after .sched (pattern .B)).W
    a[16] = 0x8000403C00F0010B ∧ a[99] = 0x678323EA9AF58DEE ∧
    b[17] = 0x830200000000008E ∧ b[79] = 0xE9123AC2DB1A31BC ∧ b[80] = 0 := by decide +kernel

/-- V6, the row of H-C; R144 for H-D; V51. -/
theorem test_sched_CD :
    let w := (after .sched (pattern .C)).W
    w[8] = 0 ∧ w[16] = 0x6F842CA7BE181D17 ∧ w[63] = 0xC78ABC4CBD577327 ∧
    (after .sched (pattern .D)).W = Vector.replicate 100 0 ∧
    statusWord (after .sched (pattern .B)) = 0x02A := by decide +kernel

/-- The state before ROUNDS of V11, or of V9 for H-D, the round count that of the variant. -/
def loaded (v : Variant) (n : Word) : State :=
  { blankIn .schd v with NROUNDS := n, AC := t0.base }

/-- V9, the row of H-D: the padded block of "abc" under P64x2 on the initial vector. -/
theorem test_rounds_D :
    let t := after .rounds { loaded .D 80 with
      S := t0iv
      B := #v[0x6162638000000000, 0, 0, 0, 0, 0, 0x1800000000000000, 0xFFFFFFFFFFFFFFE7, 0, 0, 0, 0, 0, 0, 0, 0] }
    t.work = ⟨0xFB9213C6D64894DC, 0xEB00361C2763B76F, 0x284F2CAA5F47C707, 0x572794339EAA798A,
      0x5CD285A9695C8FCB, 0xFA99406257528733, 0x8AA6374D1A98E0B3, 0x6102F6CF6213C366⟩ ∧
    t.S[0] = 0xABCDEF0123456789 ∧ t.S[7] = 0x456789ABCDEF0123 := by decide +kernel

/-- V11: the working words after the rounds of an all-zero block, H-A and H-C; V51. -/
theorem test_rounds_AC :
    let a := after .rounds (loaded .A 100)
    let c := after .rounds (loaded .C 80)
    a.work.a = 0x1AAA8744C5089553 ∧ a.work.h = 0x3CA81EA592965EE8 ∧
    c.work.a = 0x78B1EB44203EE1B2 ∧ c.work.h = 0x9C07BD5A543D65CD ∧ statusWord c = 0x04E := by decide +kernel

/-- V13, the row of H-A: the fold of the working words of V9. -/
theorem test_fold_A :
    let t := after .fold { blankIn .rnds .A with
      S := t0iv, BLKIDX := 0xFFFFFFFFFFFFFFFF
      work := ⟨0xE86576B76165964B, 0xAB17A3338CE51D48, 0x1D9020F19A7C23AD, 0x44D8DC0FEFD626BB,
        0x2884CB5570E5488B, 0xE6D914FB82008C97, 0x18FBE2C30111AF3E, 0x56E6947CF6349FB2⟩ }
    t.S = #v[0x3041E7D6AF26232E, 0x12AFC5B08DC80148, 0x9A274D38054089C0, 0x74052B1AEB62EFE2,
      0xDEEB817C418C4584, 0xB8C96F5E27AEABA6, 0x566309F4C904CD0C, 0xFC8DA39263EA676A] ∧ t.BLKIDX = 0 := by
  decide +kernel

/-- V13, the row of H-D. -/
theorem test_fold_D :
    let t := after .fold { blankIn .rnds .D with
      S := #v[0xABCDEF0123456789, 0x89ABCDEF01234567, 0xEF0123456789ABCD, 0xCDEF0123456789AB,
        0x23456789ABCDEF01, 0x0123456789ABCDEF, 0x6789ABCDEF012345, 0x456789ABCDEF0123]
      work := ⟨0xFB9213C6D64894DC, 0xEB00361C2763B76F, 0x284F2CAA5F47C707, 0x572794339EAA798A,
        0x5CD285A9695C8FCB, 0xFA99406257528733, 0x8AA6374D1A98E0B3, 0x6102F6CF6213C366⟩ }
    t.S = #v[0x02D011E81BBF207A, 0x20B6330639D90294, 0x461CDDAC5F73EC3E, 0x64F2FFCA7D9DCE58,
      0x8A5899609337A8F2, 0xA83EBB8EB1518A1C, 0xCE945524D7FB64B6, 0xEC7A7742F51546D0] ∧ t.BLKIDX = 1 := by
  decide +kernel

/-- V12: H-B from `S = 0`: one BLOCK of the P128-padded "abc". -/
theorem test_block_B :
    let t := after .block { blankIn .ready .B with
      NROUNDS := 120
      B := #v[0x6162638000000000, 0, 0, 0, 0, 0, 0, 0, 0, 0, 0, 0, 0, 0, 0, 0x18] }
    t.S = #v[0x6105A027D50C6E50, 0x3872FA9058B0622C, 0xA70ADD8D044EA991, 0xF9D41FD7E6F74134,
      0xC481355668B8CFCC, 0x824CAA58E7089872, 0xE226BBAFBB92BE17, 0xCEF41380BFE1026D] ∧
    statusWord t = 0x026 := by decide +kernel

/-- V11: one BLOCK of H-D from zero. -/
theorem test_block_D :
    let t := after .block { blankIn .ready .D with NROUNDS := 80 }
    t.S = Vector.replicate 8 0x689ABE3AF4689D9D ∧ t.BLKIDX = 1 := by decide +kernel

/-- V16: FINAL of H-A and H-B straight after INIT; V51. -/
theorem test_final_AB :
    (after .final (opened .A)).S = t0iv ∧
    (after .final (opened .B)).S = #v[0x56C576025094E247, 0x91EBE69703B35DE3, 0xB863556181A3AB28,
      0x997AD45D8BBB1B16, 0x3BF40AAF6BF7FFD8, 0xEB5D938378A8C589, 0x7503BDC32449FFD1, 0xC864C5E0E629F1E6] ∧
    statusWord (after .final (opened .B)) = 0x032 := by decide +kernel

/-- V16: FINAL of H-C and H-D straight after INIT. -/
theorem test_final_CD :
    (after .final (opened .C)).S = #v[0x6ABC49049A7BE9B8, 0xC6DEBB0668AE0430, 0xE021235566ED1EA5,
      0xF14EDAF1486B3E50, 0x943D8BCFA0FF9D77, 0xFB5E1E4C62D8F6FB, 0x29D03D4A503305E3, 0xB264CFD504BA7BC6] ∧
    (after .final (opened .D)).S = #v[0xEA92F92E38320D83, 0xEDB8A7CD0578287C, 0x741752A6A5D44A5F,
      0xC217618DBDE2E757, 0xEB10FE9F321685AE, 0x167F21135E509B9A, 0xD236BDDB856A97C6, 0x299742D4539E0B0C] := by
  decide +kernel

/-! ### The window, the status word and the errors (V50 to V52) -/

/-- A command of H-B in flight in READY. -/
def busyB : State := { opened .B with inflight := some 0x005 }

/-- V51: STATUS while busy, and the error bits. -/
theorem test_status : statusWord busyB = 0x025 ∧
    statusWord { blank with ERR_ILL := true } = 0x100 ∧ statusWord { blank with ERR_SEQ := true } = 0x200 ∧
    statusWord { blank with ERR_BUSY := true } = 0x400 ∧ statusWord State.reset = 0 := by decide +kernel

/-- V52: reserved, misaligned, narrow. -/
theorem test_bus_errors :
    ([0x0C0, 0x0F8, 0x180, 0x1F8, 0x520, 0xFF8, 0x044] : List Offset).all
      (fun off => (memRead off 8 blank).host.response == some .busError) = true ∧
    (memRead 0x008 4 blank).host.response = some .busError := by decide +kernel

/-- V52: writes to read-only locations are ignored; MHASH and CTRL keep their implemented bits. -/
theorem test_bus_writes :
    (memWrite 0x038 8 5 blank).NROUNDS = 0 ∧ (memWrite 0x200 8 1 blank).W = blank.W ∧
    (memWrite 0x080 8 1 blank).work = blank.work ∧
    readReg (memWrite 0x028 8 0xFFFFFFFF00017862 blank) .mhash = 0x0000000000017862 ∧
    readReg (memWrite 0x010 8 0xFFFFFFFFFFFFFFFF blank) .ctrl = 1 ∧
    statusWord (memWrite 0x008 8 0xFFFFFFFFFFFFFFFF
      { opened .B with DONE := true, ERR_ILL := true, ERR_SEQ := true, ERR_BUSY := true }) = 0x024 := by
  decide +kernel

/-- R62, R63: while busy. -/
theorem test_bus_busy :
    (memRead 0x008 8 busyB).host.response = some (.data 0x025) ∧
    (memWrite 0x100 8 1 busyB).ERR_BUSY = true ∧ (memWrite 0x100 8 1 busyB).B = busyB.B ∧
    (memWrite 0x0C0 8 1 busyB).ERR_BUSY = false := by decide +kernel

/-- V50: a word that is badly encoded and out of phase gives ERR_ILL only. -/
theorem test_illegal_first :
    step { blank with inflight := some 0x014 } = .next { blank with ERR_ILL := true, DONE := true } := rfl

/-- R79: FOLD in IDLE is ERR_SEQ and nothing else. -/
theorem test_out_of_phase : exec .fold blank = .next { blank with ERR_SEQ := true, DONE := true } := rfl

/-- R269: the interrupt output. -/
theorem test_irq : irq { blank with IE := true, DONE := true } = true ∧ irq { blank with DONE := true } = false := by
  decide +kernel

/-- The word of a table row placed in flight is the next command. -/
theorem test_withFetchWord : step (blank.withFetchWord 64 0x131) =
    exec (.initD true) { blank with inflight := some 0x131, DONE := false } := rfl

/-! ### The host (E1, V2, V30) -/

theorem test_hashCode : hashCode [] = 0 ∧ hashCode [0x61, 0x62, 0x63] = 96354 ∧ hashCode [0x4F60, 0x597D] = 652829
    ∧ hashCode (List.replicate 7 0x61) = 0xB6470001 := by decide +kernel

/-- An extra block of P64x2, of zeros, in front (no value of the spec: `host.DFB` is open). -/
def zerosFirst (_ : Nat) : ExtraBlock := ⟨Vector.replicate 8 0, 0⟩

theorem test_padding :
    messageBlocks .A .lsbFirst zerosFirst [0x61, 0x62, 0x63] =
      [[0x6162638000000000, 0, 0, 0, 0, 0, 0, 0, 0, 0, 0, 0, 0, 0, 0, 0x18]] ∧
    messageBlocks .C .lsbFirst zerosFirst [0x61, 0x62, 0x63] =
      [[0x6162638000000000, 0, 0, 0, 0, 0, 0x1800000000000000, 0xFFFFFFFFFFFFFFE7]] := by decide +kernel

/-- R239, V30: 64 bytes make the two blocks of the formula and one more; the empty message makes one; H-A has no
extra block. -/
theorem test_extra_block :
    (messageBlocks .D .lsbFirst zerosFirst (List.replicate 64 0x61)).length = 3 ∧
    (messageBlocks .D .lsbFirst zerosFirst (List.replicate 64 0x61)).getLast? =
      some [0x8000000000000000, 0, 0, 0, 0, 0, 0x0002000000000000, 0xFFFFFFFFFFFFFDFF] ∧
    (messageBlocks .C .lsbFirst zerosFirst []).length = 1 ∧
    (messageBlocks .A .lsbFirst zerosFirst (List.replicate 128 0x61)).length = 2 := by decide +kernel

/-- R241, R244: no write of S where the mix is 0, one where it is not; the choices of the flow. -/
theorem test_messageScript :
    let mix : Nat → Word := fun i => if i = 2 then 1 else 0
    stateStmts t0 .C (fun _ => 0) = [] ∧ stateStmts t0 .C mix = [.wr (.s 2) 0x456789ABCDEF0122] ∧
    messageScript ⟨fun k => k == 1, true⟩ t0 .C 0 0 0 (fun _ => 0) [[1], [2]] =
      [.cmd (.initC true), .wait, .hashblk [1], .stepblk [2], .cmd .final, .wait, .rds, .cmd .clear, .wait] ∧
    messageScript ⟨fun _ => false, false⟩ t0 .C 0 0 0 (fun _ => 0) [] =
      [.cmd (.initC true), .wait, .cmd .final, .wait, .rds] := by decide +kernel

/-- R82: WAIT with three polls that read BUSY 1, as turns: after three steps the answer has BUSY 1 (V51 with VAR
A), after the completion and one more poll it has DONE and READY. -/
theorem test_wait_polls :
    let s := withHost (waitTurns true 3) { blankIn .ready .A with inflight := some 0x000 }
    (stateAfter 3 s).host.response = some (.data 0x05) ∧ (stateAfter 3 s).inflight = some 0x000 ∧
    (stateAfter 5 s).host.response = some (.data 0x06) ∧ (stateAfter 5 s).host.turns = [] := by decide +kernel

/-- R82: HASHBLK as turns: two polls read BUSY 1; and a command that completes early leaves WAIT one poll. -/
theorem test_scriptTurns :
    let rd : Turn := .host (.read 0x008 8)
    scriptTurns ⟨fun _ => false, fun _ => 2⟩ [.hashblk [7]] =
      [.host (.write 0x100 8 7), .host (.write 0x000 8 5), rd, rd, .core, rd] ∧
    scriptTurns ⟨fun _ => true, fun _ => 2⟩ [.cmd .nop, .rd .ctrl, .wait] =
      [.host (.write 0x000 8 0), .core, .host (.read 0x010 8), rd] := by decide +kernel

/-! ### Witnesses: every statement's hypotheses are met -/

theorem witness_DecodeEncodeAgree : Instr.wf (.initC true) = true ∧ encode (.initC true) = 0x121 := by decide

theorem witness_StepRunsDecodedCommand :
    let s := { blank with inflight := some 0x005 }
    s.inflight = some (0x005 : Word) ∧ decode 0x005 = .ok .block ∧ s.host.turns = [] ∧
    (withHost [.core, .reset] s).host.turns = .core :: [.reset] := by decide +kernel

theorem witness_coreActsNext :
    coreActsNext blank = true ∧ coreActsNext (withHost [.core] busyB) = true := by decide +kernel

/-- Of the words that raise ERR_ILL in NopEndsAndChangesNothing, ClearZeroesEverythingButCtrl and
BlockIsSchedThenRoundsThenFold. -/
theorem witness_raisesErrIll :
    ((0x010 : Word).toNat % 16 = 0 ∧ (0x010 : Word) ≠ 0) ∧ ((0x107 : Word).toNat % 16 = 7 ∧ (0x107 : Word) ≠ 7) ∧
    ((0x205 : Word).toNat % 16 = 5 ∧ (0x205 : Word) ≠ 5) ∧
    { blank with inflight := some 0x010 }.inflight = some (0x010 : Word) := by decide +kernel

/-- No command's word is 8. -/
theorem witness_IllegalWordSetsErrIllOnly : ∀ i : Instr, encode i ≠ 0x008 := by
  intro i
  rcases i with _ | liv | liv | liv | liv | _ | _ | _ | _ | _ | _ <;> first | decide | (cases liv <;> decide)

theorem witness_PhaseTableGovernsCommands :
    (blankIn .idle .A).PHASE = .idle ∧ (blankIn .ready .A).PHASE = .ready ∧ (blankIn .schd .B).PHASE = .schd ∧
    (blankIn .rnds .C).PHASE = .rnds ∧ (blankIn .fin .D).PHASE = .fin := by decide +kernel

theorem witness_AcceptedCommandRunsNext :
    let s := withHost [.host (.write 0x000 8 (encode .sched)), .core] blank
    s.inflight = none ∧ s.host.turns = .host (.write 0x000 8 (encode .sched)) :: .core :: [] := by decide +kernel

/-- Of WaitPollsUntilIdle: a command in flight, and none. -/
theorem witness_WaitPollsUntilIdle :
    busyB.inflight ≠ none ∧ (withHost (waitTurns true 2) busyB).host.turns = waitTurns busyB.busy 2 ++ [] ∧
    blank.inflight = none ∧ (withHost (waitTurns false 2) blank).host.turns = waitTurns blank.busy 2 ++ [] := by
  decide +kernel

theorem witness_EveryAcceptedCommandEnds : busyB.inflight ≠ none := by decide +kernel

/-- Of the four statements on SCHED. -/
theorem witness_SchedWritesSchedule :
    ((pattern .A).PHASE = .ready ∧ (pattern .A).VAR = .A) ∧ ((pattern .B).PHASE = .ready ∧ (pattern .B).VAR = .B) ∧
    ((pattern .C).PHASE = .ready ∧ (pattern .C).VAR = .C) ∧ ((pattern .D).PHASE = .ready ∧ (pattern .D).VAR = .D) := by
  decide +kernel

/-- Of the four statements on ROUNDS. -/
theorem witness_RoundsRunEveryRound :
    ((loaded .A 100).PHASE = .schd ∧ (loaded .A 100).VAR = .A ∧ (loaded .A 100).AC.len = (loaded .A 100).cfg.base.len) ∧
    ((loaded .B 120).PHASE = .schd ∧ (loaded .B 120).VAR = .B) ∧
    ((loaded .C 80).PHASE = .schd ∧ (loaded .C 80).VAR = .C) ∧
    ((loaded .D 80).PHASE = .schd ∧ (loaded .D 80).VAR = .D) := by decide +kernel

/-- Also of SumFoldKeepsLaneDifferences. -/
theorem witness_FoldAddsSumIntoEveryLane :
    (blankIn .rnds .A).PHASE = .rnds ∧ (blankIn .rnds .A).VAR = .A ∧
    (blankIn .rnds .D).PHASE = .rnds ∧ (blankIn .rnds .D).VAR ≠ .A := by decide +kernel

/-- Of BlockIsSchedThenRoundsThenFold and BlockWritesOnlyWorkingState. -/
theorem witness_Block : (opened .D).PHASE = .ready ∧ (opened .D).VAR = .D ∧ (blankIn .schd .D).PHASE ≠ .ready := by
  decide +kernel

/-- Of FinalAChangesNoData, FinalBRunsSixteenPasses and FinalCDRunsItsPasses. -/
theorem witness_Final :
    ((opened .A).PHASE = .ready ∧ (opened .A).VAR = .A) ∧ ((opened .B).PHASE = .ready ∧ (opened .B).VAR = .B) ∧
    ((opened .C).PHASE = .ready ∧ ((opened .C).VAR = .C ∧ 12 = 12 ∨ (opened .C).VAR = .D ∧ 12 = 24)) ∧
    ((opened .D).PHASE = .ready ∧ ((opened .D).VAR = .C ∧ 24 = 12 ∨ (opened .D).VAR = .D ∧ 24 = 24)) := by
  decide +kernel

theorem witness_CommandsKeepHostRegisters :
    Instr.fold ≠ .clear ∧ { blank with ERR_SEQ := true }.ERR_SEQ = true := by decide

/-- The last bit, the last byte and the last lane of ChooseAndMajorityBitwise, SboxReplacesEveryByte and
PboxGathersReversedWords. -/
theorem witness_primitive_ranges : 63 < 64 ∧ 7 < 8 ∧ 0 < 64 ∧ 0 < 8 := by decide

/-- The two ends of the range. -/
theorem witness_FlogIsFloorOfNaturalLog : (1 ≤ 1 ∧ 1 ≤ 2 ^ 64) ∧ (1 ≤ 2 ^ 64 ∧ 2 ^ 64 ≤ 2 ^ 64) := by decide

/-- Of IdleReadsReturnRegisters and IdleWritesStoreAndNothingElse. -/
theorem witness_IdleAccess : blank.inflight = none ∧ (opened .B).inflight = none := by decide +kernel

/-- One access for each disjunct, at the ends of the reserved ranges. -/
theorem witness_BadAccessIsBusError :
    (4 ≠ 8) ∧ (0x044 : Offset).toNat % 8 ≠ 0 ∧
    (0x0C0 ≤ (0x0C0 : Offset).toNat ∧ (0x0C0 : Offset).toNat < 0x100) ∧
    (0x0C0 ≤ (0x0F8 : Offset).toNat ∧ (0x0F8 : Offset).toNat < 0x100) ∧
    (0x180 ≤ (0x180 : Offset).toNat ∧ (0x180 : Offset).toNat < 0x200) ∧
    (0x180 ≤ (0x1F8 : Offset).toNat ∧ (0x1F8 : Offset).toNat < 0x200) ∧
    0x520 ≤ (0x520 : Offset).toNat ∧ 0x520 ≤ (0xFF8 : Offset).toNat := by decide

/-- Valid offsets at the ends of the three ranges, and an invalid one. -/
theorem witness_BusyWriteIsDropped :
    busyB.inflight ≠ none ∧
    ([0x000, 0x0B8, 0x100, 0x178, 0x200, 0x518] : List Offset).all (fun off =>
      decide (off.toNat % 8 = 0 ∧ (off.toNat < 0x0C0 ∨ (0x100 ≤ off.toNat ∧ off.toNat < 0x180) ∨
        (0x200 ≤ off.toNat ∧ off.toNat < 0x520)))) = true ∧
    ¬ ((0x0C0 : Offset).toNat < 0x0C0 ∨ (0x100 ≤ (0x0C0 : Offset).toNat ∧ (0x0C0 : Offset).toNat < 0x180) ∨
        (0x200 ≤ (0x0C0 : Offset).toNat ∧ (0x0C0 : Offset).toNat < 0x520)) := by decide +kernel

theorem witness_BusyReadsChangeNoRegister :
    busyB.inflight ≠ none ∧
    ([0x010, 0x0B8, 0x100, 0x178, 0x200, 0x518] : List Offset).all (fun off =>
      decide (off.toNat % 8 = 0 ∧ ((0x010 ≤ off.toNat ∧ off.toNat < 0x0C0) ∨
        (0x100 ≤ off.toNat ∧ off.toNat < 0x180) ∨ (0x200 ≤ off.toNat ∧ off.toNat < 0x520)))) = true := by
  decide +kernel

/-- R51: the ends of the ranges of the map. -/
theorem witness_RegisterMapIsOneToOne :
    target 0x000 8 = some .cmd ∧ target 0x038 8 = some .nrounds ∧ target 0x040 8 = some (.s 0) ∧
    target 0x0B8 8 = some (.work 7) ∧ target 0x100 8 = some (.b 0) ∧ target 0x518 8 = some (.w 99) ∧
    offsetOf (.b 15) = 0x178 ∧ offsetOf (.s 7) = 0x078 := by decide +kernel

/-- Of ReadStepChangesNoRegister and HostStepKeepsCoreRegisters. -/
theorem witness_HostStep :
    (withHost [.host (.read 0x040 8)] blank).host.turns = .host (.read 0x040 8) :: [] ∧
    (withHost [.host (.write 0x040 8 1)] blank).host.turns = .host (.write 0x040 8 1) :: [] := by decide +kernel

theorem witness_ResetInputClearsRegisters : (withHost [.reset] busyB).host.turns = .reset :: [] := by decide +kernel

/-- A state of the invariant in mid-message, and the step from it. -/
def midMessage : State := { opened .A with NROUNDS := 2300, inflight := some 0x000 }

theorem witness_EveryStepKeepsInv : midMessage.Inv where
  acLength := by decide +kernel
  busyNotDone := by decide +kernel
  idleClean := by decide +kernel
  openRounds := fun _ => ⟨44, by decide, by decide +kernel⟩

/-- Also the witness of EveryStepKeepsTables. -/
theorem witness_EveryStepKeepsInv_step :
    step midMessage = .next { midMessage with inflight := none, DONE := true } := rfl

/-- The invariant of a state with no message open. -/
theorem witness_EveryStepKeepsInv_idle : blank.Inv where
  acLength := by decide +kernel
  busyNotDone := by decide +kernel
  idleClean := by decide +kernel
  openRounds := by intro h; exact absurd (by decide +kernel) h

/-- The round counts of the other variants. -/
theorem witness_EveryStepKeepsInv_counts :
    legalRoundCount .B 120 ∧ legalRoundCount .C 80 ∧ legalRoundCount .D 80 := ⟨rfl, rfl, rfl⟩

/-- A step that changes the variant: the completion of INIT.C under H-B. -/
theorem witness_VariantChangesOnlyAtInitClearReset :
    let s := { opened .B with inflight := some (encode (.initC false)) }
    step s = .next (after (.initC false) s) ∧ (after (.initC false) s).VAR ≠ s.VAR :=
  ⟨rfl, by decide +kernel⟩

/-- ROUNDS of H-B in flight. -/
def roundsB : State := { loaded .B 120 with inflight := some 0x003 }

/-- `roundsB` with another value in a word of `W` that H-B's rounds do not read, in `AC`, and in what the host
has been answered. -/
def roundsB' : State :=
  { roundsB with
    W := (Vector.replicate 100 0).set 80 7, AC := ⟨5, [0, 0, 0, 0]⟩, host := ⟨[], some .ok, 9⟩ }

theorem witness_UnspecifiedValuesReachNothing : SameButUnspecified roundsB roundsB' where
  rest := by decide +kernel
  turns := by decide +kernel
  schedule := fun _ k hk => by
    have h : ∀ j : Fin 80, schedWord roundsB.W j.val = schedWord roundsB'.W j.val := by decide +kernel
    exact h ⟨k, hk⟩
  adaptive := fun _ h => by revert h; decide +kernel

theorem witness_UnspecifiedValuesReachNothing_step :
    step roundsB = .next (after .rounds roundsB) ∧ step roundsB' = .next (after .rounds roundsB') := ⟨rfl, rfl⟩

/-- Two H-A messages open, of which only the answers differ, meet the clause on the adaptive constants. -/
theorem witness_UnspecifiedValuesReachNothing_adaptive :
    SameButUnspecified (opened .A) (answer .ok (opened .A)) where
  rest := rfl
  turns := rfl
  schedule := fun _ _ _ => rfl
  adaptive := fun _ _ => rfl

end Sys2Proof.Tests
end

section
/-! PROOFS. The statements of the family 10_state.md. First the rules of what they share: the STATUS word, the
registers of the window, the reset state, the effects of the commands, a host transaction; then all that one step
can do, as the relation `Acts`; then each statement by these rules. -/

namespace Sys2Proof.Machine

/-! ### The STATUS word (R30) -/

/-- R30: the field of STATUS that bit `k` belongs to. -/
theorem statusWord_getLsbD (s : State) (k : Nat) :
    (statusWord s).getLsbD k =
      if k = 0 then s.busy
      else if k = 1 then s.DONE
      else if k < 5 then (phaseCode s.PHASE).getLsbD (k - 2)
      else if k < 7 then (variantCode s.VAR).getLsbD (k - 5)
      else if k = 8 then s.ERR_ILL
      else if k = 9 then s.ERR_SEQ
      else if k = 10 then s.ERR_BUSY
      else false := by
  rw [statusWord]
  iterate 8 rw [BitVec.getLsbD_append]
  simp only [BitVec.getLsbD_ofBool, BitVec.getLsbD_zero, Nat.sub_sub]
  by_cases hk : k < 11
  · interval_cases k <;> simp
  · obtain ⟨j, rfl⟩ := Nat.exists_eq_add_of_le' (Nat.le_of_not_lt hk)
    simp

theorem statusWord_phase (s : State) : (statusWord s).extractLsb' 2 3 = phaseCode s.PHASE := by
  apply BitVec.eq_of_getLsbD_eq
  intro i hi
  rw [BitVec.getLsbD_extractLsb', statusWord_getLsbD]
  grind

theorem statusWord_var (s : State) : (statusWord s).extractLsb' 5 2 = variantCode s.VAR := by
  apply BitVec.eq_of_getLsbD_eq
  intro i hi
  rw [BitVec.getLsbD_extractLsb', statusWord_getLsbD]
  grind

theorem statusWord_reserved (s : State) : (statusWord s).extractLsb' 11 53 = 0 := by
  apply BitVec.eq_of_getLsbD_eq
  intro i hi
  rw [BitVec.getLsbD_extractLsb', statusWord_getLsbD]
  grind

/-! ### The registers of the window (R51, R65) -/

theorem Reg.number_lt (r : Reg) : r.number < 164 := by
  cases r <;> simp only [Reg.number] <;> omega

/-- R51: the map from location numbers finds every register at its own number. -/
theorem regAt_number (r : Reg) : regAt r.number = some r := by
  cases r
  case s i => simp [regAt, Reg.number, Nat.add_comm _ i.val]
  case work i => simp [regAt, Reg.number, Nat.add_comm _ i.val]
  case b i =>
    have hge : ∀ k ≤ 32, ¬ i.val + 32 < k := by omega
    have hlt : i.val + 32 < 48 := by omega
    simp [regAt, Reg.number, Nat.add_comm _ i.val, hge, hlt]
  case w i =>
    have hge : ∀ k ≤ 64, ¬ i.val + 64 < k := by omega
    have hlt : i.val + 64 < 164 := by omega
    simp [regAt, Reg.number, Nat.add_comm _ i.val, hge, hlt]
  all_goals rfl

/-- R51, R53: a 64-bit access at a register's offset reaches that register. -/
@[simp] theorem target_offsetOf (r : Reg) : target (offsetOf r) 8 = some r := by
  have hoff : (offsetOf r).toNat = 8 * r.number := by
    have := r.number_lt
    simp only [offsetOf, BitVec.toNat_ofNat]
    omega
  simp [target, hoff, regAt_number]

/-- R65: while no command is in flight a 64-bit write at a register's offset is that register's write. -/
theorem memWrite_offsetOf_of_idle {s : State} (h : s.inflight = none) (v : Word) (r : Reg) :
    memWrite (offsetOf r) 8 v s = answer .ok (writeReg v s r) := by
  simp [memWrite, State.busy, h]

/-- R31: a flag goes by a written 1, and stays otherwise. -/
theorem clearStatus_eq_ite (v : Word) (s : State) :
    clearStatus v s = { s with
      DONE := if v.getLsbD 1 then false else s.DONE
      ERR_ILL := if v.getLsbD 8 then false else s.ERR_ILL
      ERR_SEQ := if v.getLsbD 9 then false else s.ERR_SEQ
      ERR_BUSY := if v.getLsbD 10 then false else s.ERR_BUSY } := by
  have hflag : ∀ d b : Bool, (d && !b) = if b then false else d := by decide
  simp [clearStatus, hflag]

/-! ### The reset state (R40) -/

@[simp] theorem resetInput_cfg (s : State) : (resetInput s).cfg = s.cfg := rfl

theorem resetWith_AC_len (c : Cfg) (n : Nat) (p : HostSide) :
    (State.resetWith c n p).AC.len = c.base.len := by
  simp [State.resetWith, Table.len]

/-- R40: the state after reset meets the invariant, whatever its draws are. -/
theorem inv_resetWith (c : Cfg) (n : Nat) (p : HostSide) : (State.resetWith c n p).Inv where
  acLength := resetWith_AC_len c n p
  busyNotDone := fun _ => rfl
  idleClean := fun _ => ⟨rfl, rfl⟩
  openRounds := fun hopen => absurd rfl hopen

/-! ### The effects of the commands -/

@[simp] theorem effectOf_cfg (i : Instr) (s : State) : (effectOf i s).cfg = s.cfg := by cases i <;> rfl
@[simp] theorem effectOf_IE (i : Instr) (s : State) : (effectOf i s).IE = s.IE := by cases i <;> rfl
@[simp] theorem effectOf_host (i : Instr) (s : State) : (effectOf i s).host = s.host := by cases i <;> rfl

/-- The registers that no command but CLEAR writes (R23, R33 to R35), and the error flags. -/
structure SameHostRegisters (s t : State) : Prop where
  B : t.B = s.B
  MLEN : t.MLEN = s.MLEN
  CLEN : t.CLEN = s.CLEN
  MHASH : t.MHASH = s.MHASH
  ERR_ILL : t.ERR_ILL = s.ERR_ILL
  ERR_SEQ : t.ERR_SEQ = s.ERR_SEQ
  ERR_BUSY : t.ERR_BUSY = s.ERR_BUSY

theorem sameHostRegisters_effectOf {i : Instr} (h : i ≠ .clear) (s : State) :
    SameHostRegisters s (effectOf i s) := by
  cases i
  case clear => exact absurd rfl h
  all_goals exact ⟨rfl, rfl, rfl, rfl, rfl, rfl, rfl⟩

/-- The commands of a message already open: neither INIT, which opens one, nor CLEAR, which closes it. -/
def keepsMessage : Instr → Bool
  | .nop => true
  | .initA _ => false
  | .initB _ => false
  | .initC _ => false
  | .initD _ => false
  | .sched => true
  | .rounds => true
  | .fold => true
  | .block => true
  | .final => true
  | .clear => false

/-- Every command opens a message, closes it, or belongs to the one that is open. -/
theorem message_cases (i : Instr) :
    (∃ v liv, i = initOf v liv) ∨ i = .clear ∨ keepsMessage i = true := by
  cases i
  case initA liv => exact .inl ⟨.A, liv, rfl⟩
  case initB liv => exact .inl ⟨.B, liv, rfl⟩
  case initC liv => exact .inl ⟨.C, liv, rfl⟩
  case initD liv => exact .inl ⟨.D, liv, rfl⟩
  case clear => exact .inr (.inl rfl)
  all_goals exact .inr (.inr rfl)

@[simp] theorem effectOf_initOf (v : Variant) (liv : Bool) : effectOf (initOf v liv) = initEffect v liv := by
  cases v <;> rfl

@[simp] theorem phaseNext_initOf (v : Variant) (liv : Bool) (p : Phase) :
    phaseNext (initOf v liv) p = some .ready := by
  cases v <;> rfl

/-- Only INIT and CLEAR write `AC`, the variant and the round count (R25, R37, R295). -/
theorem effectOf_of_keepsMessage {i : Instr} (h : keepsMessage i = true) (s : State) :
    (effectOf i s).AC = s.AC ∧ (effectOf i s).VAR = s.VAR ∧ (effectOf i s).NROUNDS = s.NROUNDS := by
  cases i <;> cases h <;> exact ⟨rfl, rfl, rfl⟩

/-- R79: within a message the phase neither leaves IDLE nor comes back to it. -/
theorem phaseNext_idle_iff_of_keepsMessage {i : Instr} (h : keepsMessage i = true) {p q : Phase}
    (hp : phaseNext i q = some p) : p = .idle ↔ q = .idle := by
  cases i <;> grind [phaseNext, keepsMessage]

/-! ### The round count (R108, R123) -/

theorem flog_le (n : Nat) : flog n ≤ 44 :=
  (List.takeWhile_sublist _).length_le

/-- R123: what INIT of a variant leaves is a round count of that variant. -/
theorem legalRoundCount_roundCount (clen : Word) (v : Variant) :
    legalRoundCount v (BitVec.ofNat 64 (roundCount clen v)) := by
  cases v
  case A =>
    have hk := flog_le (clen.toNat + 1)
    refine ⟨flog (clen.toNat + 1), hk, ?_⟩
    simp only [roundCount, BitVec.toNat_ofNat]
    omega
  all_goals rfl

/-! ### A host transaction -/

/-- All a host transaction can do: a bus answer alone, a draw while busy, a dropped write while busy, or a write
of a register while no command is in flight. -/
theorem access_cases (acc : Access) (s : State) :
    (∃ a, access acc s = answer a s) ∨
      access acc s = drawBusyRead s ∨
      access acc s = answer .ok (raiseErr .busy s) ∨
      ∃ v r, s.busy = false ∧ access acc s = answer .ok (writeReg v s r) := by
  cases acc with
  | read off n =>
    obtain ⟨-, h⟩ | ⟨r, -, -, -, h⟩ | ⟨r, -, -, h⟩ := memRead_cases off n s
    · exact .inl ⟨_, h⟩
    · exact .inr (.inl h)
    · exact .inl ⟨_, h⟩
  | write off n v =>
    obtain ⟨-, h⟩ | ⟨r, -, -, h⟩ | ⟨r, -, hb, h⟩ := memWrite_cases off n v s
    · exact .inl ⟨_, h⟩
    · exact .inr (.inr (.inl h))
    · exact .inr (.inr (.inr ⟨v, r, hb, h⟩))

/-- The registers no host transaction writes (R22, R24 to R26, R28, R37). -/
structure SameCoreRegisters (s t : State) : Prop where
  cfg : t.cfg = s.cfg
  PHASE : t.PHASE = s.PHASE
  VAR : t.VAR = s.VAR
  work : t.work = s.work
  W : t.W = s.W
  AC : t.AC = s.AC
  NROUNDS : t.NROUNDS = s.NROUNDS

theorem SameCoreRegisters.refl (s : State) : SameCoreRegisters s s := ⟨rfl, rfl, rfl, rfl, rfl, rfl, rfl⟩

theorem sameCoreRegisters_writeReg (v : Word) (s : State) (r : Reg) :
    SameCoreRegisters s (writeReg v s r) := by
  cases r <;> exact ⟨rfl, rfl, rfl, rfl, rfl, rfl, rfl⟩

theorem sameCoreRegisters_raiseErr (e : Err) (s : State) : SameCoreRegisters s (raiseErr e s) := by
  cases e <;> exact ⟨rfl, rfl, rfl, rfl, rfl, rfl, rfl⟩

theorem sameCoreRegisters_errored (e : Err) (s : State) : SameCoreRegisters s (errored e s) := by
  cases e <;> exact ⟨rfl, rfl, rfl, rfl, rfl, rfl, rfl⟩

theorem SameCoreRegisters.answer {s t : State} (h : SameCoreRegisters s t) (a : Response) :
    SameCoreRegisters s (answer a t) :=
  ⟨h.cfg, h.PHASE, h.VAR, h.work, h.W, h.AC, h.NROUNDS⟩

theorem sameCoreRegisters_access (acc : Access) (s : State) : SameCoreRegisters s (access acc s) := by
  obtain ⟨a, h⟩ | h | h | ⟨v, r, -, h⟩ := access_cases acc s <;> rw [h]
  · exact (SameCoreRegisters.refl s).answer a
  · exact ⟨rfl, rfl, rfl, rfl, rfl, rfl, rfl⟩
  · exact (sameCoreRegisters_raiseErr .busy s).answer .ok
  · exact (sameCoreRegisters_writeReg v s r).answer .ok

@[simp] theorem writeReg_host (v : Word) (s : State) (r : Reg) : (writeReg v s r).host = s.host := by
  cases r <;> rfl

@[simp] theorem access_turns (acc : Access) (s : State) : (access acc s).host.turns = s.host.turns := by
  obtain ⟨a, h⟩ | h | h | ⟨v, r, -, h⟩ := access_cases acc s <;> simp [h]

/-- R120: only acceptance puts a command in flight, and it clears DONE. -/
theorem writeReg_done_of_busy {s : State} (v : Word) (r : Reg) (hidle : s.busy = false)
    (h : (writeReg v s r).busy = true) : (writeReg v s r).DONE = false := by
  cases r
  case cmd => rfl
  all_goals exact absurd h (Bool.eq_false_iff.mp hidle)

/-- R62: no host transaction leaves DONE at 1 while a command is in flight. -/
theorem access_done_of_busy {s : State} (acc : Access) (h : s.busy = true → s.DONE = false) :
    (access acc s).busy = true → (access acc s).DONE = false := by
  obtain ⟨a, heq⟩ | heq | heq | ⟨v, r, hidle, heq⟩ := access_cases acc s <;> rw [heq]
  · exact h
  · exact h
  · exact h
  · exact writeReg_done_of_busy v r hidle

/-! ### One step -/

/-- All that the agent whose turn it is can do to a state: one constructor per outcome of `complete`, one for a
host transaction, one for the reset input. -/
inductive Acts (s : State) : State → Prop
  /-- R275: with no command in flight the core waits -/
  | waits (hidle : s.inflight = none) : Acts s s
  /-- R76: a word that is no command's -/
  | illegal {c : Word} {e : Illegal} (hc : s.inflight = some c) (hd : decode c = .error e) :
      Acts s (errored .ill s)
  /-- R79: a command out of phase -/
  | outOfPhase {c : Word} {i : Instr} (hc : s.inflight = some c) (hd : decode c = .ok i)
      (hp : phaseNext i s.PHASE = none) : Acts s (errored .seq s)
  /-- R120: a command in a phase the table allows -/
  | command {c : Word} {i : Instr} {p : Phase} (hc : s.inflight = some c) (hd : decode c = .ok i)
      (hp : phaseNext i s.PHASE = some p) : Acts s (retire { effectOf i s with PHASE := p })
  /-- R61: a transaction of the host -/
  | transaction (acc : Access) : Acts s (access acc s)
  /-- R285: the reset input -/
  | reset : Acts s (resetInput s)

theorem acts_of_complete {s t : State} (h : complete s = .next t) : Acts s t := by
  obtain ⟨hidle, heq⟩ | ⟨c, e, hc, hd, heq⟩ | ⟨c, i, hc, hd, heq⟩ := complete_cases s <;> rw [heq] at h
  · cases h; exact .waits hidle
  · cases h; exact .illegal hc hd
  · rw [exec_next h]
    obtain ⟨hp, hrun⟩ | ⟨p, hp, hrun⟩ := runCommand_cases i (effectOf i) s <;> rw [hrun]
    · exact .outOfPhase hc hd hp
    · exact .command hc hd hp

/-- R10: a step is an act on the state with the turns that remain. -/
theorem acts_of_step {s t : State} (h : step s = .next t) : ∃ ts, Acts (withTurns ts s) t := by
  obtain ⟨-, heq⟩ | ⟨ts, -, heq⟩ | ⟨acc, ts, -, heq⟩ | ⟨ts, -, heq⟩ := step_cases s <;> rw [heq] at h
  · exact ⟨s.host.turns, acts_of_complete h⟩
  · exact ⟨ts, acts_of_complete h⟩
  · cases h; exact ⟨ts, .transaction acc⟩
  · cases h; exact ⟨ts, .reset⟩

theorem Acts.cfg_eq {s t : State} (h : Acts s t) : t.cfg = s.cfg := by
  cases h with
  | waits => rfl
  | illegal => rfl
  | outOfPhase => rfl
  | command => simp
  | transaction acc => exact (sameCoreRegisters_access acc s).cfg
  | reset => exact resetInput_cfg s

/-! ### The invariant -/

/-- Of the registers the host writes, the invariant reads only BUSY and DONE. -/
theorem State.Inv.of_sameCoreRegisters {s t : State} (hs : s.Inv) (h : SameCoreRegisters s t)
    (hdone : t.busy = true → t.DONE = false) : t.Inv where
  acLength := by rw [h.AC, h.cfg, hs.acLength]
  busyNotDone := hdone
  idleClean := by rw [h.PHASE, h.NROUNDS, h.VAR]; exact hs.idleClean
  openRounds := by rw [h.PHASE, h.NROUNDS, h.VAR]; exact hs.openRounds

theorem inv_withTurns {s : State} (hs : s.Inv) (ts : List Turn) : (withTurns ts s).Inv :=
  hs.of_sameCoreRegisters ⟨rfl, rfl, rfl, rfl, rfl, rfl, rfl⟩ hs.busyNotDone

theorem inv_errored {s : State} (hs : s.Inv) (e : Err) : (errored e s).Inv :=
  hs.of_sameCoreRegisters (sameCoreRegisters_errored e s) (fun hb => by simp [errored] at hb)

theorem inv_access {s : State} (hs : s.Inv) (acc : Access) : (access acc s).Inv :=
  hs.of_sameCoreRegisters (sameCoreRegisters_access acc s) (access_done_of_busy acc hs.busyNotDone)

/-- R122 to R124: INIT opens a message with a round count of its variant. -/
theorem inv_init {s : State} (hs : s.Inv) (v : Variant) (liv : Bool) :
    (retire { initEffect v liv s with PHASE := .ready }).Inv where
  acLength := by
    simp only [retire_AC, retire_cfg, initEffect_AC, initEffect_cfg]
    split
    · exact mkTable_len _ _
    · exact hs.acLength
  busyNotDone := fun hb => by simp at hb
  idleClean := fun hidle => by simp at hidle
  openRounds := fun _ => legalRoundCount_roundCount s.CLEN v

/-- R125: CLEAR leaves the round count 0 and the variant A. -/
theorem inv_clear (s : State) : (retire { clearEffect s with PHASE := .idle }).Inv where
  acLength := mkTable_len _ _
  busyNotDone := fun hb => by simp at hb
  idleClean := fun _ => ⟨rfl, rfl⟩
  openRounds := fun hopen => absurd rfl hopen

/-- A command of the open message changes nothing the invariant reads but the phase, and that not to or from
IDLE. -/
theorem inv_of_keepsMessage {s : State} (hs : s.Inv) {i : Instr} {p : Phase} (hi : keepsMessage i = true)
    (hp : phaseNext i s.PHASE = some p) : (retire { effectOf i s with PHASE := p }).Inv := by
  obtain ⟨hAC, hVAR, hN⟩ := effectOf_of_keepsMessage hi s
  have hidle := phaseNext_idle_iff_of_keepsMessage hi hp
  constructor
  case acLength => simpa [hAC] using hs.acLength
  case busyNotDone => exact fun hb => by simp at hb
  case idleClean => simpa [hVAR, hN, hidle] using hs.idleClean
  case openRounds => simpa [hVAR, hN, hidle] using hs.openRounds

theorem inv_command {s : State} (hs : s.Inv) {i : Instr} {p : Phase} (hp : phaseNext i s.PHASE = some p) :
    (retire { effectOf i s with PHASE := p }).Inv := by
  obtain ⟨v, liv, rfl⟩ | rfl | hi := message_cases i
  · obtain rfl : Phase.ready = p := by simpa using hp
    rw [effectOf_initOf]
    exact inv_init hs v liv
  · obtain rfl : Phase.idle = p := by simpa [phaseNext] using hp
    exact inv_clear s
  · exact inv_of_keepsMessage hs hi hp

theorem inv_of_acts {s t : State} (hs : s.Inv) (h : Acts s t) : t.Inv := by
  cases h with
  | waits => exact hs
  | illegal => exact inv_errored hs .ill
  | outOfPhase => exact inv_errored hs .seq
  | command _ _ hp => exact inv_command hs hp
  | transaction acc => exact inv_access hs acc
  | reset => exact inv_resetWith _ _ _

/-! ### The statements -/

/-- Settles O50: a step is an act on the state with its turn gone, and every act keeps the invariant. -/
theorem everyStepKeepsInv : Obligations.EveryStepKeepsInv := by
  intro s t hs h
  obtain ⟨ts, hact⟩ := acts_of_step h
  exact inv_of_acts (inv_withTurns hs ts) hact

/-- Settles O30: out of phase a command only raises ERR_SEQ, in phase it is its effect. -/
theorem commandsKeepHostRegisters : Obligations.CommandsKeepHostRegisters := by
  intro i s
  refine ⟨_, exec_eq_runCommand i s, ?_⟩
  obtain ⟨-, hrun⟩ | ⟨p, -, hrun⟩ := runCommand_cases i (effectOf i) s <;> rw [hrun]
  · exact ⟨rfl, rfl, rfl, rfl, rfl, fun _ => ⟨rfl, rfl, rfl, rfl, rfl, rfl, fun _ => rfl⟩⟩
  · refine ⟨effectOf_cfg i s, effectOf_IE i s, effectOf_host i s, rfl, rfl, fun hi => ?_⟩
    have hsame := sameHostRegisters_effectOf hi s
    exact ⟨hsame.B, hsame.MLEN, hsame.CLEN, hsame.MHASH, hsame.ERR_ILL, hsame.ERR_BUSY,
      fun hseq => hsame.ERR_SEQ.trans hseq⟩

/-- Settles O39: each offset is that of a register, whose write is `writeReg`. -/
theorem idleWritesStoreAndNothingElse : Obligations.IdleWritesStoreAndNothingElse := by
  intro s v hidle
  have hwrite : ∀ (r : Reg) (off : Nat), off = 8 * r.number →
      memWrite (BitVec.ofNat 12 off) 8 v s = answered .ok (writeReg v s r) := by
    rintro r _ rfl
    exact memWrite_offsetOf_of_idle hidle v r
  refine ⟨hwrite .cmd _ rfl, ?status, hwrite .ctrl _ rfl, hwrite .mlen _ rfl, hwrite .clen _ rfl, ?mhash,
    hwrite .blkidx _ rfl, hwrite .nrounds _ rfl, ?s, ?work, ?b, ?w⟩
  case status => rw [← clearStatus_eq_ite]; exact hwrite .status _ rfl
  case mhash => rw [← BitVec.setWidth_eq_extractLsb' (by decide)]; exact hwrite .mhash _ rfl
  case s => exact fun i hi => hwrite (.s ⟨i, hi⟩) _ (by simp only [Reg.number]; omega)
  case work => exact fun i hi => hwrite (.work ⟨i, hi⟩) _ (by simp only [Reg.number]; omega)
  case b => exact fun i hi => hwrite (.b ⟨i, hi⟩) _ (by simp only [Reg.number]; omega)
  case w => exact fun i hi => hwrite (.w ⟨i, hi⟩) _ (by simp only [Reg.number]; omega)

/-- Settles O45: the step is the transaction, which keeps the core's own registers. -/
theorem hostStepKeepsCoreRegisters : Obligations.HostStepKeepsCoreRegisters := by
  intro s acc ts hturn
  have hstep : step s = .next (access acc (withTurns ts s)) := by simp [step, hturn, takeTurn]
  have hsame := sameCoreRegisters_access acc (withTurns ts s)
  exact ⟨_, hstep, hsame.PHASE, hsame.VAR, hsame.work, hsame.W, hsame.AC, hsame.NROUNDS, hsame.cfg,
    access_turns acc _⟩

/-- Settles O51: no act changes the tables. -/
theorem everyStepKeepsTables : Obligations.EveryStepKeepsTables := by
  intro s t h
  obtain ⟨ts, hact⟩ := acts_of_step h
  exact hact.cfg_eq

/-- Settles O37: every field by the bits of `statusWord_getLsbD`. -/
theorem statusWordLayout : Obligations.StatusWordLayout := by
  intro s
  have hbit := statusWord_getLsbD s
  refine ⟨hbit 0, hbit 1, ?phase, ?var, hbit 7, hbit 8, hbit 9, hbit 10, statusWord_reserved s⟩
  case phase => rw [statusWord_phase]; cases s.PHASE <;> rfl
  case var => rw [statusWord_var]; cases s.VAR <;> rfl

/-- Settles O48: each register by the definition of the reset state. -/
theorem resetStateValues : Obligations.ResetStateValues :=
  ⟨rfl, rfl, rfl, rfl, rfl, rfl, rfl, rfl, rfl, rfl, rfl, rfl⟩

/-- Settles O49: the reset state is one of `State.resetWith`. -/
theorem invHoldsAtReset : Obligations.InvHoldsAtReset := inv_resetWith _ _ _

end Sys2Proof.Machine
end

section
/-! PROOFS. The statements of the family 20_memory.md. First the register map: `regAt` is the inverse of
`Reg.number`, so an access reaches a register exactly at the register's own offset, and reaches one at all exactly
at a valid offset. Then one rule for each thing a read or a write does, by what it reaches and whether a command is
in flight; then each statement by these rules. -/

namespace Sys2Proof.Machine

/-! ### The register map (R51, R53, R54) -/

/-- R51: the location numbers of the registers fill the three ranges of the map. -/
theorem exists_number_eq_iff {k : Nat} :
    (∃ r : Reg, r.number = k) ↔ k < 24 ∨ (32 ≤ k ∧ k < 48) ∨ (64 ≤ k ∧ k < 164) := by
  constructor
  · rintro ⟨r, rfl⟩
    cases r <;> simp only [Reg.number] <;> omega
  · intro h
    obtain hctl | hs | hwork | hb | hw :
        k < 8 ∨ (8 ≤ k ∧ k < 16) ∨ (16 ≤ k ∧ k < 24) ∨ (32 ≤ k ∧ k < 48) ∨ (64 ≤ k ∧ k < 164) := by omega
    · interval_cases k
      exacts [⟨.cmd, rfl⟩, ⟨.status, rfl⟩, ⟨.ctrl, rfl⟩, ⟨.mlen, rfl⟩, ⟨.clen, rfl⟩, ⟨.mhash, rfl⟩,
        ⟨.blkidx, rfl⟩, ⟨.nrounds, rfl⟩]
    · exact ⟨.s ⟨k - 8, by omega⟩, Nat.add_sub_of_le hs.1⟩
    · exact ⟨.work ⟨k - 16, by omega⟩, Nat.add_sub_of_le hwork.1⟩
    · exact ⟨.b ⟨k - 32, by omega⟩, Nat.add_sub_of_le hb.1⟩
    · exact ⟨.w ⟨k - 64, by omega⟩, Nat.add_sub_of_le hw.1⟩

/-- R54: a location with no register is reserved. -/
theorem regAt_eq_none {k : Nat} (h : ¬ ∃ r : Reg, r.number = k) : regAt k = none := by
  rw [exists_number_eq_iff] at h
  simp (disch := omega) only [regAt, if_neg, dif_neg]

/-- R51: the map finds a register at its own location number and at no other. -/
theorem regAt_eq_some_iff {k : Nat} {r : Reg} : regAt k = some r ↔ r.number = k := by
  constructor
  · intro h
    by_cases hk : ∃ r : Reg, r.number = k
    · obtain ⟨r', rfl⟩ := hk
      rw [regAt_number] at h
      rw [Option.some.inj h]
    · rw [regAt_eq_none hk] at h
      cases h
  · rintro rfl
    exact regAt_number r

theorem toNat_offsetOf (r : Reg) : (offsetOf r).toNat = 8 * r.number := by
  have := r.number_lt
  simp only [offsetOf, BitVec.toNat_ofNat]
  omega

/-- R51, R53: an access reaches a register exactly when it is 64 bits wide and at the register's offset. -/
theorem target_eq_some_iff {off : Offset} {n : Nat} {r : Reg} :
    target off n = some r ↔ n = 8 ∧ off = offsetOf r := by
  constructor
  · intro h
    unfold target at h
    split_ifs at h with hacc
    obtain ⟨hn, halign⟩ := hacc
    have hnum := regAt_eq_some_iff.mp h
    have hoff := toNat_offsetOf r
    exact ⟨hn, BitVec.eq_of_toNat_eq (by omega)⟩
  · rintro ⟨rfl, rfl⟩
    exact target_offsetOf r

/-- R51, R53, R54: the offsets R65 calls valid: aligned, and in one of the three ranges of the map. -/
def ValidOffset (off : Offset) : Prop :=
  off.toNat % 8 = 0 ∧
    (off.toNat < 0x0C0 ∨ (0x100 ≤ off.toNat ∧ off.toNat < 0x180) ∨ (0x200 ≤ off.toNat ∧ off.toNat < 0x520))

theorem validOffset_offsetOf (r : Reg) : ValidOffset (offsetOf r) := by
  have hnum := exists_number_eq_iff.mp ⟨r, rfl⟩
  rw [ValidOffset, toNat_offsetOf]
  omega

/-- R54: the valid offsets are those of the registers. -/
theorem ValidOffset.exists_eq_offsetOf {off : Offset} (h : ValidOffset off) : ∃ r, off = offsetOf r := by
  obtain ⟨halign, hrange⟩ := h
  obtain ⟨r, hnum⟩ : ∃ r : Reg, r.number = off.toNat / 8 := exists_number_eq_iff.mpr (by omega)
  have hoff := toNat_offsetOf r
  exact ⟨r, BitVec.eq_of_toNat_eq (by omega)⟩

/-- R53, R54: an access reaches nothing when it is narrow, or its offset not valid. -/
theorem target_eq_none {off : Offset} {n : Nat} (h : n ≠ 8 ∨ ¬ ValidOffset off) : target off n = none := by
  refine Option.eq_none_iff_forall_ne_some.mpr fun r hr => ?_
  obtain ⟨rfl, rfl⟩ := target_eq_some_iff.mp hr
  exact h.elim (· rfl) (· (validOffset_offsetOf r))

/-! ### What a read and a write do (R54, R62, R63, R65) -/

theorem busy_iff {s : State} : s.busy = true ↔ s.inflight ≠ none := Option.isSome_iff_ne_none

theorem readsWhileBusy_iff (r : Reg) : readsWhileBusy r = true ↔ r.number < 2 := by
  cases r <;> simp only [readsWhileBusy, Reg.number] <;> grind

theorem memRead_of_target_eq_none {off : Offset} {n : Nat} (h : target off n = none) (s : State) :
    memRead off n s = answer .busError s := by
  simp [memRead, h]

theorem memWrite_of_target_eq_none {off : Offset} {n : Nat} (h : target off n = none) (v : Word) (s : State) :
    memWrite off n v s = answer .busError s := by
  simp [memWrite, h]

/-- R65: with no command in flight, and of CMD and STATUS always, the answer is the register's value. -/
theorem memRead_offsetOf {s : State} {r : Reg} (h : s.busy = false ∨ readsWhileBusy r = true) :
    memRead (offsetOf r) 8 s = answer (.data (readReg s r)) s := by
  obtain h | h := h <;> simp [memRead, h]

/-- R62: any other register reads as a draw while a command is in flight. -/
theorem memRead_offsetOf_of_busy {s : State} {r : Reg} (hb : s.busy = true) (hr : 2 ≤ r.number) :
    memRead (offsetOf r) 8 s = drawBusyRead s := by
  have hdrawn : readsWhileBusy r = false := by
    rw [Bool.eq_false_iff, ne_eq, readsWhileBusy_iff]
    omega
  simp [memRead, hb, hdrawn]

/-- R63: while a command is in flight a write of a register only raises ERR_BUSY. -/
theorem memWrite_offsetOf_of_busy {s : State} (hb : s.busy = true) (v : Word) (r : Reg) :
    memWrite (offsetOf r) 8 v s = answer .ok (raiseErr .busy s) := by
  simp [memWrite, hb]

/-- R55: a read writes the host's side alone. -/
theorem memRead_eq_with_host (off : Offset) (n : Nat) (s : State) :
    memRead off n s = { s with host := (memRead off n s).host } := by
  obtain ⟨-, h⟩ | ⟨r, -, -, -, h⟩ | ⟨r, -, -, h⟩ := memRead_cases off n s <;> rw [h] <;> rfl

/-- R125, R263: only CLEAR takes ERR_BUSY back; a command out of phase keeps it too. -/
theorem runCommand_ERR_BUSY {i : Instr} (h : i ≠ .clear) (s : State) :
    (runCommand i (effectOf i) s).ERR_BUSY = s.ERR_BUSY := by
  obtain ⟨-, hrun⟩ | ⟨p, -, hrun⟩ := runCommand_cases i (effectOf i) s <;> rw [hrun]
  · rfl
  · exact (sameHostRegisters_effectOf h s).ERR_BUSY

/-! ### The statements -/

/-- Settles O38: each offset is that of a register, whose value is `readReg`. -/
theorem idleReadsReturnRegisters : Obligations.IdleReadsReturnRegisters := by
  intro s hidle
  have hread : ∀ (r : Reg) (off : Nat), off = 8 * r.number →
      memRead (BitVec.ofNat 12 off) 8 s = answered (.data (readReg s r)) s := by
    rintro r _ rfl
    exact memRead_offsetOf (.inl (by simp [State.busy, hidle]))
  refine ⟨hread .cmd _ rfl, hread .status _ rfl, ?ctrl, hread .mlen _ rfl, hread .clen _ rfl, hread .mhash _ rfl,
    hread .blkidx _ rfl, hread .nrounds _ rfl, ?s, hread (.work 0) _ rfl, hread (.work 1) _ rfl,
    hread (.work 2) _ rfl, hread (.work 3) _ rfl, hread (.work 4) _ rfl, hread (.work 5) _ rfl,
    hread (.work 6) _ rfl, hread (.work 7) _ rfl, ?b, ?w⟩
  case ctrl =>
    have hbit : readReg s .ctrl = if s.IE then 1 else 0 := by cases h : s.IE <;> simp [readReg, h]
    rw [← hbit]
    exact hread .ctrl _ rfl
  case s => exact fun i hi => hread (.s ⟨i, hi⟩) _ (by simp only [Reg.number]; omega)
  case b => exact fun i hi => hread (.b ⟨i, hi⟩) _ (by simp only [Reg.number]; omega)
  case w => exact fun i hi => hread (.w ⟨i, hi⟩) _ (by simp only [Reg.number]; omega)

/-- Settles O40: a bad access reaches no register, busy or not. -/
theorem badAccessIsBusError : Obligations.BadAccessIsBusError := by
  intro off n v s hbad
  have hnone : target off n = none := target_eq_none (by rw [ValidOffset]; omega)
  exact ⟨memRead_of_target_eq_none hnone s, memWrite_of_target_eq_none hnone v s⟩

/-- Settles O41: a valid offset is that of a register, an invalid one reaches none, and no command but CLEAR takes
the flag back. -/
theorem busyWriteIsDropped : Obligations.BusyWriteIsDropped := by
  intro off v s hbusy
  refine ⟨fun (hvalid : ValidOffset off) => ?valid, fun hinvalid => ?invalid, fun i hi => ?flag⟩
  case valid =>
    obtain ⟨r, rfl⟩ := hvalid.exists_eq_offsetOf
    exact memWrite_offsetOf_of_busy (busy_iff.mpr hbusy) v r
  case invalid => exact memWrite_of_target_eq_none (target_eq_none (.inr hinvalid)) v s
  case flag => exact ⟨_, exec_eq_runCommand i _, runCommand_ERR_BUSY hi _⟩

/-- Settles O43: `target_eq_some_iff` at a width of 8 bytes. -/
theorem registerMapIsOneToOne : Obligations.RegisterMapIsOneToOne := by
  intro r off
  rw [target_eq_some_iff, eq_comm (a := off)]
  exact and_iff_right rfl

/-- Settles O42: CMD and STATUS are read exactly, and an offset of the given ranges is that of another register. -/
theorem busyReadsChangeNoRegister : Obligations.BusyReadsChangeNoRegister := by
  intro off s hbusy
  refine ⟨memRead_offsetOf (r := .cmd) (.inr rfl), memRead_offsetOf (r := .status) (.inr rfl), ?_⟩
  intro halign hrange
  have hvalid : ValidOffset off := ⟨halign, by omega⟩
  obtain ⟨r, rfl⟩ := hvalid.exists_eq_offsetOf
  rw [toNat_offsetOf] at hrange
  exact memRead_offsetOf_of_busy (busy_iff.mpr hbusy) (by omega)

/-- Settles O44: the step is the read, which writes the host's side alone and takes no turn of its own. -/
theorem readStepChangesNoRegister : Obligations.ReadStepChangesNoRegister := by
  intro s off n ts hturn
  have hstep : step s = .next (memRead off n (withTurns ts s)) := by simp [step, hturn, takeTurn, access]
  refine ⟨_, hstep, ?_, access_turns (.read off n) (withTurns ts s)⟩
  rw [memRead_eq_with_host]
  rfl

end Sys2Proof.Machine
end

section
/-! PROOFS. The statements of the family 30_encoding.md. First the command words: a word is its five fields, the
encoder packs the fields of its command into a word whose reserved bits are 0, and the decoder reads a command exactly
from that command's fields. Then WAIT: its polls are an iterate of `poll`, as a loop and as turns; the core's
completion ends the command whatever turns are to come. Then each statement by these rules. -/

namespace Sys2Proof.Machine

/-! ### The fields of a word (R70) -/

/-- R70: bit by bit, the fields of a packed word stand where the field accessors read them. -/
theorem packWord_getLsbD (op : BitVec 4) (v : BitVec 2) (liv : Bool) (k : Nat) :
    (packWord op v liv).getLsbD k =
      if k < 4 then op.getLsbD k
      else if k < 6 then v.getLsbD (k - 4)
      else if k = 8 then liv
      else false := by
  rw [packWord]
  iterate 4 rw [BitVec.getLsbD_append]
  simp only [BitVec.getLsbD_ofBool, BitVec.getLsbD_zero]
  grind

/-- R70: a word whose reserved bits are 0 is its three other fields. -/
theorem packWord_fields {c : Word} (h1 : fieldRsv1 c = 0) (h0 : fieldRsv0 c = 0) :
    packWord (fieldOp c) (fieldVar c) (fieldLiv c) = c := by
  have hrsv1 : ∀ i < 55, c.getLsbD (9 + i) = false := fun i hi => by
    simpa [fieldRsv1, hi] using congrArg (·.getLsbD i) h1
  have hrsv0 : ∀ i < 2, c.getLsbD (6 + i) = false := fun i hi => by
    simpa [fieldRsv0, hi] using congrArg (·.getLsbD i) h0
  apply BitVec.eq_of_getLsbD_eq
  intro k hk
  simp only [packWord_getLsbD, fieldOp, fieldVar, fieldLiv, BitVec.getLsbD_extractLsb']
  have h6 := hrsv0 (k - 6)
  have h9 := hrsv1 (k - 9)
  grind

/-- R70: packing and reading the fields are inverse to each other. -/
theorem packWord_eq_iff {op : BitVec 4} {v : BitVec 2} {liv : Bool} {c : Word} :
    packWord op v liv = c ↔
      (fieldRsv1 c = 0 ∧ fieldRsv0 c = 0) ∧ fieldOp c = op ∧ fieldVar c = v ∧ fieldLiv c = liv := by
  constructor
  · rintro rfl
    refine ⟨⟨?rsv1, ?rsv0⟩, ?op, ?var, ?liv⟩
    case liv => rw [fieldLiv, packWord_getLsbD]; simp
    all_goals
      apply BitVec.eq_of_getLsbD_eq
      intro k hk
      simp only [fieldRsv1, fieldRsv0, fieldOp, fieldVar, BitVec.getLsbD_extractLsb', packWord_getLsbD]
      grind
  · rintro ⟨⟨h1, h0⟩, rfl, rfl, rfl⟩
    exact packWord_fields h1 h0

theorem fieldOp_toNat (c : Word) : (fieldOp c).toNat = c.toNat % 16 := by
  simp [fieldOp]

/-! ### The fields of a command (R72 to R74) -/

/-- R72: the opcode of a command. -/
def opcodeOf : Instr → BitVec 4
  | .nop => 0
  | .initA _ => 1
  | .initB _ => 1
  | .initC _ => 1
  | .initD _ => 1
  | .sched => 2
  | .rounds => 3
  | .fold => 4
  | .block => 5
  | .final => 6
  | .clear => 7

/-- R73, R75: the `VAR` field of a command, 0 but for INIT. -/
def varOf : Instr → BitVec 2
  | .initA _ => variantCode .A
  | .initB _ => variantCode .B
  | .initC _ => variantCode .C
  | .initD _ => variantCode .D
  | .nop | .sched | .rounds | .fold | .block | .final | .clear => 0

/-- R74, R75: the `LIV` bit of a command, 0 but for INIT. -/
def livOf : Instr → Bool
  | .initA liv | .initB liv | .initC liv | .initD liv => liv
  | .nop | .sched | .rounds | .fold | .block | .final | .clear => false

/-- R81: the word of a command packs the command's fields. -/
theorem encode_eq_packWord (i : Instr) : encode i = packWord (opcodeOf i) (varOf i) (livOf i) := by
  cases i <;> rfl

@[simp] theorem opcodeOf_initOf (v : Variant) (liv : Bool) : opcodeOf (initOf v liv) = 1 := by cases v <;> rfl
@[simp] theorem varOf_initOf (v : Variant) (liv : Bool) : varOf (initOf v liv) = variantCode v := by cases v <;> rfl
@[simp] theorem livOf_initOf (v : Variant) (liv : Bool) : livOf (initOf v liv) = liv := by cases v <;> rfl

@[simp] theorem variantCode_variantOfCode (v : BitVec 2) : variantCode (variantOfCode v) = v := by
  revert v; decide

/-! ### The decoder (R72, R75, R76) -/

theorem decode_eq_ok_iff_decodeOp {c : Word} {i : Instr} :
    decode c = .ok i ↔ (fieldRsv1 c = 0 ∧ fieldRsv0 c = 0) ∧ decodeOp c = .ok i := by
  unfold decode
  split_ifs with hrsv <;> simp only [hrsv, false_and, true_and, and_self]

/-- R75: a command other than INIT is read where its operand bits are 0. -/
theorem plain_eq_ok_iff {c : Word} {i j : Instr} :
    plain c i = .ok j ↔ i = j ∧ fieldVar c = 0 ∧ fieldLiv c = false := by
  unfold plain
  split_ifs with hop <;> simp only [hop, Except.ok.injEq, and_false, and_true]

theorem decodeOp_of_init {c : Word} (hop : fieldOp c = 1) :
    decodeOp c = .ok (initOf (variantOfCode (fieldVar c)) (fieldLiv c)) := by
  simp [decodeOp, hop]

/-- R75: the three fields of a word are those of some command exactly when the opcode is at most 7 and, unless it
is that of INIT, there is no operand. -/
theorem exists_fields_iff {op : BitVec 4} {v : BitVec 2} {liv : Bool} :
    (∃ i, op = opcodeOf i ∧ v = varOf i ∧ liv = livOf i) ↔
      op.toNat ≤ 7 ∧ (op.toNat ≠ 1 → v = 0 ∧ liv = false) := by
  constructor
  · rintro ⟨i, rfl, rfl, rfl⟩
    cases i <;> simp [opcodeOf, varOf, livOf]
  · rintro ⟨hle, hplain⟩
    obtain ⟨n, hn⟩ : ∃ n, n = op.toNat := ⟨_, rfl⟩
    rw [← hn] at hle hplain
    obtain rfl : op = BitVec.ofNat 4 n := by simp [hn]
    by_cases h1 : n = 1
    · exact ⟨initOf (variantOfCode v) liv, by simp [h1]⟩
    · obtain ⟨rfl, rfl⟩ := hplain h1
      interval_cases n
      exacts [⟨.nop, rfl, rfl, rfl⟩, absurd rfl h1, ⟨.sched, rfl, rfl, rfl⟩, ⟨.rounds, rfl, rfl, rfl⟩,
        ⟨.fold, rfl, rfl, rfl⟩, ⟨.block, rfl, rfl, rfl⟩, ⟨.final, rfl, rfl, rfl⟩, ⟨.clear, rfl, rfl, rfl⟩]

/-- R72, R75: past the reserved bits, a word is read as the command whose three other fields it has. -/
theorem decodeOp_eq_ok_iff {c : Word} {i : Instr} :
    decodeOp c = .ok i ↔ fieldOp c = opcodeOf i ∧ fieldVar c = varOf i ∧ fieldLiv c = livOf i := by
  constructor
  · intro h
    unfold decodeOp at h
    split at h
    case h_2 hop =>
      cases h
      exact ⟨by simpa using BitVec.eq_of_toNat_eq hop, by simp, by simp⟩
    case h_9 => cases h
    all_goals
      rename_i hop
      obtain ⟨rfl, hvar, hliv⟩ := plain_eq_ok_iff.mp h
      exact ⟨BitVec.eq_of_toNat_eq hop, hvar, hliv⟩
  · rintro ⟨hop, hvar, hliv⟩
    cases i
    case initA | initB | initC | initD => rw [decodeOp_of_init hop, hvar, hliv]; rfl
    all_goals
      rw [decodeOp, hop]
      exact plain_eq_ok_iff.mpr ⟨rfl, hvar, hliv⟩

/-- R75: a word is read as the command whose fields it has, its reserved bits 0. -/
theorem decode_eq_ok_iff {c : Word} {i : Instr} :
    decode c = .ok i ↔
      (fieldRsv1 c = 0 ∧ fieldRsv0 c = 0) ∧
        fieldOp c = opcodeOf i ∧ fieldVar c = varOf i ∧ fieldLiv c = livOf i := by
  rw [decode_eq_ok_iff_decodeOp, decodeOp_eq_ok_iff]

/-- R76: the word of a command is the one word that is read as it. -/
theorem decode_eq_ok_iff_encode {c : Word} {i : Instr} : decode c = .ok i ↔ encode i = c := by
  rw [decode_eq_ok_iff, encode_eq_packWord, packWord_eq_iff]

/-! ### The end of a command (R76, R120) -/

/-- R76: the completion of a word that is no command's. -/
theorem complete_of_not_encode {s : State} {c : Word} (hc : s.inflight = some c) (h : ∀ i, encode i ≠ c) :
    complete s = .next (errored .ill s) := by
  obtain ⟨hnone, -⟩ | ⟨-, -, -, -, heq⟩ | ⟨c', i, hc', hd, -⟩ := complete_cases s
  · simp [hc] at hnone
  · exact heq
  · obtain rfl : c = c' := by simpa [hc] using hc'
    exact absurd (decode_eq_ok_iff_encode.mp hd) (h i)

@[simp] theorem effectOf_withTurns (i : Instr) (ts : List Turn) (s : State) :
    effectOf i (withTurns ts s) = withTurns ts (effectOf i s) := by
  cases i <;> rfl

/-- R120: every command, in phase or out of it, is gone when it ends, and the turns to come stay. -/
theorem runCommand_ends (i : Instr) (s : State) :
    (runCommand i (effectOf i) s).inflight = none ∧ (runCommand i (effectOf i) s).host = s.host := by
  obtain ⟨-, hrun⟩ | ⟨p, -, hrun⟩ := runCommand_cases i (effectOf i) s <;> rw [hrun]
  · exact ⟨rfl, rfl⟩
  · exact ⟨rfl, effectOf_host i s⟩

/-- A command does not read the turns to come. -/
theorem runCommand_withTurns (i : Instr) (ts : List Turn) (s : State) :
    runCommand i (effectOf i) (withTurns ts s) = withTurns ts (runCommand i (effectOf i) s) := by
  unfold runCommand
  rw [withTurns_PHASE, effectOf_withTurns]
  cases phaseNext i s.PHASE <;> rfl

/-- R120, R275: the core's turn always leaves a next state, with nothing in flight, and the host's side as it was. -/
theorem complete_ends (s : State) : ∃ t, complete s = .next t ∧ t.inflight = none ∧ t.host = s.host := by
  obtain ⟨hidle, heq⟩ | ⟨-, -, -, -, heq⟩ | ⟨-, i, -, -, heq⟩ := complete_cases s
  · exact ⟨s, heq, hidle, rfl⟩
  · exact ⟨errored .ill s, heq, rfl, rfl⟩
  · exact ⟨_, heq.trans (exec_eq_runCommand i s), runCommand_ends i s⟩

/-- The completion does not read the turns to come. -/
theorem complete_withTurns {s t : State} (ts : List Turn) (h : complete s = .next t) :
    complete (withTurns ts s) = .next (withTurns ts t) := by
  obtain ⟨hidle, heq⟩ | ⟨c, e, hc, hd, heq⟩ | ⟨c, i, hc, hd, heq⟩ := complete_cases s <;> rw [heq] at h
  · cases h
    simp [complete, hidle]
  · cases h
    simp only [complete, withTurns_inflight, hc, hd]
    rfl
  · rw [exec_next h, ← runCommand_withTurns]
    simp [complete, hc, hd, exec_eq_runCommand]

/-! ### WAIT (R82) -/

@[simp] theorem withTurns_withTurns (ts us : List Turn) (s : State) :
    withTurns ts (withTurns us s) = withTurns ts s := rfl

theorem withTurns_poll (ts : List Turn) (s : State) : withTurns ts (poll s) = poll (withTurns ts s) := by
  rw [poll_eq, poll_eq]; rfl

theorem polls_inflight (k : Nat) (s : State) : (poll^[k] s).inflight = s.inflight := by
  induction k generalizing s with
  | zero => rfl
  | succ k ih => rw [Function.iterate_succ_apply, ih, poll_inflight]

theorem polls_turns (k : Nat) (s : State) : (poll^[k] s).host.turns = s.host.turns := by
  induction k generalizing s with
  | zero => rfl
  | succ k ih => rw [Function.iterate_succ_apply, ih, poll_turns]

theorem withTurns_polls (ts : List Turn) (k : Nat) (s : State) :
    withTurns ts (poll^[k] s) = poll^[k] (withTurns ts s) :=
  (Function.Commute.iterate_right (withTurns_poll ts) k) s

/-- R82: while a command is in flight, the loop is its polls and then the completion and the last poll. -/
theorem waitLoop_of_busy (n : Nat) {s : State} (h : s.inflight ≠ none) :
    waitLoop n s = waitLoop 0 (poll^[n] s) := by
  induction n generalizing s with
  | zero => rfl
  | succ n ih => rw [waitLoop_busy n s h, ih (by simpa using h), Function.iterate_succ_apply]

theorem waitLoop_zero {s t : State} (h : complete s = .next t) : waitLoop 0 s = .next (poll t) := by
  simp [waitLoop, h]

/-- R82: the loop's last poll is of a state with no command in flight: `s` itself, or the one in which the command
has ended after `n` polls. -/
theorem waitLoop_ends (n : Nat) (s : State) :
    ∃ t, waitLoop n s = .next (poll t) ∧ t.inflight = none ∧ t.host.turns = s.host.turns := by
  by_cases h : s.inflight = none
  · exact ⟨s, waitLoop_idle n s h, h, rfl⟩
  · obtain ⟨t, hcomplete, hend, hhost⟩ := complete_ends (poll^[n] s)
    refine ⟨t, ?_, hend, by rw [hhost, polls_turns]⟩
    rw [waitLoop_of_busy n h, waitLoop_zero hcomplete]

/-! ### The turns of WAIT (R82) -/

theorem step_of_poll {s : State} {ts : List Turn} (h : s.host.turns = .host pollAccess :: ts) :
    step s = .next (poll (withTurns ts s)) := by
  simp [step, h, takeTurn, poll]

theorem step_of_core {s : State} {ts : List Turn} (h : s.host.turns = .core :: ts) :
    step s = complete (withTurns ts s) := by
  simp [step, h, takeTurn]

/-- One step of a run. -/
theorem run_succ_of_step {s t : State} (h : step s = .next t) (k : Nat) :
    Host.Core.run core (k + 1) s = Host.Core.run core k t := by
  have hcore : core.step s = .next t := h
  simp [Host.Core.run, hcore]

/-- A run whose first turns are polls makes them and goes on with the turns after them. -/
theorem run_polls {k : Nat} {s : State} {ts : List Turn}
    (h : s.host.turns = List.replicate k (.host pollAccess) ++ ts) (j : Nat) :
    Host.Core.run core (j + k) s = Host.Core.run core j (withTurns ts (poll^[k] s)) := by
  induction k generalizing s with
  | zero =>
    have hts : ts = s.host.turns := by simpa using h.symm
    rw [hts]; rfl
  | succ k ih =>
    rw [List.replicate_succ, List.cons_append] at h
    rw [← Nat.add_assoc, run_succ_of_step (step_of_poll h), ih (by simp), withTurns_polls, withTurns_poll,
      withTurns_withTurns, ← withTurns_poll, ← withTurns_polls, Function.iterate_succ_apply]

/-- The completion and the last poll, as turns and as the end of the loop. -/
theorem run_core_poll (ts : List Turn) (s : State) :
    Host.Core.run core 2 (withTurns (.core :: .host pollAccess :: ts) s) = waitLoop 0 (withTurns ts s) := by
  obtain ⟨t, hcomplete, -, -⟩ := complete_ends s
  have hcore : step (withTurns (.core :: .host pollAccess :: ts) s) =
      .next (withTurns (.host pollAccess :: ts) t) := by
    rw [step_of_core rfl, withTurns_withTurns, complete_withTurns _ hcomplete]
  rw [run_succ_of_step hcore, run_succ_of_step (step_of_poll rfl), withTurns_withTurns,
    waitLoop_zero (complete_withTurns ts hcomplete)]
  rfl

/-- R82: the turns of WAIT end in the state the loop ends in. -/
theorem run_waitTurns {n : Nat} {s : State} {ts : List Turn} (h : s.host.turns = waitTurns s.busy n ++ ts) :
    Host.Core.run core (waitTurns s.busy n).length s = waitLoop n (withTurns ts s) := by
  rw [waitTurns_length]
  cases hb : s.busy with
  | false =>
    have hidle : s.inflight = none := by simpa [State.busy] using hb
    have hturns : s.host.turns = .host pollAccess :: ts := by simpa [waitTurns, hb] using h
    rw [waitLoop_idle n (withTurns ts s) hidle]
    exact run_succ_of_step (step_of_poll hturns) 0
  | true =>
    have hturns : s.host.turns =
        List.replicate n (.host pollAccess) ++ .core :: .host pollAccess :: ts := by
      simpa [waitTurns, hb] using h
    rw [waitLoop_of_busy n (s := withTurns ts s) (busy_iff.mp hb), ← withTurns_polls, ← run_core_poll, if_pos rfl,
      Nat.add_comm]
    exact run_polls hturns 2

/-- R62, R82: every poll before the completion reads BUSY 1. -/
theorem answeredBusy_polls {k : Nat} {s : State} (hk : 1 ≤ k) (h : s.inflight ≠ none) :
    answeredBusy (poll^[k] s) = true := by
  obtain ⟨j, rfl⟩ := Nat.exists_eq_add_of_le' hk
  rw [Function.iterate_succ_apply', answeredBusy_poll, busy_iff, polls_inflight]
  exact h

/-! ### The statements -/

/-- Settles O2: the word and the decoder are tied to the same five fields. -/
theorem decodeEncodeAgree : Obligations.DecodeEncodeAgree :=
  fun _ _ _ => decode_eq_ok_iff_encode

/-- Settles O3: the fields a legal word can have are those of the commands. -/
theorem decodesExactlyLegalWords : Obligations.DecodesExactlyLegalWords := by
  intro c
  simp only [decode_eq_ok_iff, exists_and_left, exists_fields_iff, fieldOp_toNat, and_assoc]
  rfl

/-- Settles O6: such a word is read as no command, since it would be that command's word. -/
theorem illegalWordSetsErrIllOnly : Obligations.IllegalWordSetsErrIllOnly :=
  fun _ hword _ hc => complete_of_not_encode hc hword

/-- Settles O54: the loop ends on a poll with nothing in flight; as turns it is the same polls around the same
completion; and the polls before it leave the command in flight. -/
theorem waitPollsUntilIdle : Obligations.WaitPollsUntilIdle := by
  intro n s
  refine ⟨?ends, fun ts hturns => run_waitTurns hturns, fun ts k hbusy hturns hk hkn => ?before⟩
  case ends =>
    obtain ⟨t, hloop, hidle, hts⟩ := waitLoop_ends n s
    exact ⟨poll t, hloop, by simpa using hidle, by simp [State.busy, hidle], by simpa using hts⟩
  case before =>
    obtain ⟨m, rfl⟩ := Nat.exists_eq_add_of_le hkn
    rw [busy_iff.mpr hbusy, waitTurns, if_pos rfl, List.replicate_add, List.append_assoc, List.append_assoc] at hturns
    have hrun := run_polls hturns 0
    rw [Nat.zero_add] at hrun
    exact ⟨_, hrun, answeredBusy_polls hk hbusy, polls_inflight k s⟩

/-- Settles O1: each word is that of its command. -/
theorem sampleWordsDecode : Obligations.SampleWordsDecode := by
  refine ⟨?_, ?_, ?_, ?_, ?_⟩ <;> exact decode_eq_ok_iff_encode.mpr rfl

end Sys2Proof.Machine
end

section
/-! PROOFS. The statements of the family 40_primitives.md. First, in the order of the model's definitions, the
rules of the primitives: the packing of bytes into a word and the word under the S-box; the powers of e, of which
the table of R108 holds the ceilings, and the place `flog` finds in it. Then each statement by these rules. -/

namespace Sys2Proof.Machine

/-! ### Choose and majority (R97, R98) -/

theorem ch_getLsbD (e f g : Word) {i : Nat} (h : i < 64) :
    (ch e f g).getLsbD i = if e.getLsbD i then f.getLsbD i else g.getLsbD i := by
  rw [ch, BitVec.getLsbD_xor, BitVec.getLsbD_and, BitVec.getLsbD_and, BitVec.getLsbD_not]
  cases e.getLsbD i <;> simp [h]

theorem maj_getLsbD (a b c : Word) (i : Nat) :
    (maj a b c).getLsbD i =
      decide (2 ≤ (a.getLsbD i).toNat + (b.getLsbD i).toNat + (c.getLsbD i).toNat) := by
  have hbits : ∀ p q r : Bool,
      ((p && q) ^^ (p && r) ^^ (q && r)) = decide (2 ≤ p.toNat + q.toNat + r.toNat) := by decide
  simp [maj, hbits]

/-! ### Bytes of a word (R13, R58) -/

/-- The position of byte `k`, byte 0 being the most significant (R13). -/
theorem byteOf_eq_extractLsb' (x : Word) {k : Nat} (h : k < 8) :
    byteOf x k = x.extractLsb' (56 - 8 * k) 8 := by
  have hpos : 8 * (7 - k) = 56 - 8 * k := by omega
  rw [byteOf, hpos, BitVec.setWidth_ushiftRight_eq_extractLsb]

theorem packBytes_concat (bs : List Byte) (y : Byte) :
    packBytes (bs ++ [y]) = (packBytes bs <<< 8) ||| y.setWidth 64 := by
  simp [packBytes]

/-- The byte packed last is the least significant. -/
theorem extractLsb'_zero_append_byte (acc : Word) (y : Byte) :
    ((acc <<< 8) ||| y.setWidth 64).extractLsb' 0 8 = y := by
  ext i hi
  simp [hi]
  omega

/-- The byte packed last moves every byte before it one place up. -/
theorem extractLsb'_succ_append_byte (acc : Word) (y : Byte) {j : Nat} (h : j < 7) :
    ((acc <<< 8) ||| y.setWidth 64).extractLsb' (8 * (j + 1)) 8 = acc.extractLsb' (8 * j) 8 := by
  apply BitVec.eq_of_getLsbD_eq
  intro i hi
  have hlow : ¬ 8 * (j + 1) + i < 8 := by omega
  have hpos : 8 * (j + 1) + i - 8 = 8 * j + i := by omega
  have hin : 8 * (j + 1) + i < 64 := by omega
  have hy : y.getLsbD (8 * (j + 1) + i) = false := BitVec.getLsbD_of_ge y _ (by omega)
  simp only [BitVec.getLsbD_extractLsb', BitVec.getLsbD_or, BitVec.getLsbD_shiftLeft, BitVec.getLsbD_setWidth,
    hlow, hpos, hin, hy, decide_true, decide_false, Bool.not_false, Bool.true_and, Bool.and_false, Bool.or_false]

/-- R58: byte `j` of a packed word, counted from the least significant, is the byte `j` places before the last. -/
theorem packBytes_extractLsb' (bs : List Byte) {j : Nat} (hj : j < 8) (h : j < bs.length) :
    (packBytes bs).extractLsb' (8 * j) 8 = bs[bs.length - 1 - j] := by
  induction bs using List.reverseRecOn generalizing j with
  | nil => simp at h
  | append_singleton bs y ih =>
    rw [packBytes_concat]
    cases j with
    | zero => simpa using extractLsb'_zero_append_byte (packBytes bs) y
    | succ j =>
      have hlen : j < bs.length := by simpa using h
      rw [extractLsb'_succ_append_byte _ _ (by omega), ih (by omega) hlen, List.getElem_append_left (by simp; omega)]
      congr 1
      simp
      omega

/-! ### The S-box on a word (R101) -/

theorem byteOf_sbox (t : Vector Byte sboxLen) (x : Word) {k : Nat} (h : k < 8) :
    byteOf (sbox t x) k = sboxByte t (byteOf x k) := by
  have hpos : 56 - 8 * k = 8 * (7 - k) := by omega
  have hidx : 8 - 1 - (7 - k) = k := by omega
  rw [byteOf_eq_extractLsb' _ h, hpos, sbox, packBytes_extractLsb' _ (by omega) (by simp; omega)]
  simp [hidx]

/-! ### Powers of e (R108) -/

/-- The first 25 digits of e, as an integer. -/
def eDigits : Nat := 2718281828459045235360287

/-- The weight of the last of these digits. -/
def eScale : Nat := 10 ^ 24

theorem eDigits_le_exp_one : (eDigits / eScale : ℝ) ≤ Real.exp 1 := by
  refine le_trans ?_ (Real.sum_le_exp_of_nonneg zero_le_one 25)
  norm_num [Finset.sum_range_succ, Nat.factorial, eDigits, eScale]

theorem exp_one_le_eDigits_succ : Real.exp 1 ≤ (eDigits + 1) / eScale := by
  refine le_trans (Real.exp_bound' zero_le_one le_rfl (n := 25) (by decide)) ?_
  norm_num [Finset.sum_range_succ, Nat.factorial, eDigits, eScale]

theorem eScale_pow_pos (k : Nat) : (0 : ℝ) < (eScale : ℝ) ^ k := by
  have hscale : (0 : ℝ) < eScale := by norm_num [eScale]
  exact pow_pos hscale k

theorem exp_natCast_le {k m : Nat} (h : (eDigits + 1) ^ k ≤ m * eScale ^ k) : Real.exp k ≤ m := by
  have hcast : ((eDigits : ℝ) + 1) ^ k ≤ m * eScale ^ k := by exact_mod_cast h
  calc Real.exp k = Real.exp 1 ^ k := (Real.exp_one_pow k).symm
    _ ≤ ((eDigits + 1) / eScale) ^ k :=
      pow_le_pow_left₀ (Real.exp_pos 1).le exp_one_le_eDigits_succ k
    _ ≤ m := by rwa [div_pow, div_le_iff₀ (eScale_pow_pos k)]

theorem lt_exp_natCast {k m : Nat} (h : m * eScale ^ k < eDigits ^ k) : (m : ℝ) < Real.exp k := by
  have hcast : (m : ℝ) * eScale ^ k < (eDigits : ℝ) ^ k := by exact_mod_cast h
  calc (m : ℝ) < (eDigits / eScale) ^ k := by rwa [div_pow, lt_div_iff₀ (eScale_pow_pos k)]
    _ ≤ Real.exp 1 ^ k := pow_le_pow_left₀ (by positivity) eDigits_le_exp_one k
    _ = Real.exp k := Real.exp_one_pow k

/-! ### The thresholds and the place of `n` among them (R108) -/

/-- The 25 digits tell every threshold from the integer below it. -/
theorem lnThresholds_digits : ∀ k : Fin 45,
    (lnThresholds[k.val]'k.isLt - 1) * eScale ^ k.val < eDigits ^ k.val ∧
      (eDigits + 1) ^ k.val ≤ lnThresholds[k.val]'k.isLt * eScale ^ k.val := by
  decide +kernel

/-- R108: `TH[k] = ceil(e^k)`, so `TH[k]` and `e^k` bound the same integers from below. -/
theorem lnThresholds_le_iff {k n : Nat} (h : k < lnThresholds.length) :
    lnThresholds[k] ≤ n ↔ Real.exp k ≤ n := by
  obtain ⟨hlo, hhi⟩ := lnThresholds_digits ⟨k, h⟩
  constructor
  · intro hn
    exact (exp_natCast_le hhi).trans (by exact_mod_cast hn)
  · intro hn
    have hlt : lnThresholds[k] - 1 < n := by exact_mod_cast (lt_exp_natCast hlo).trans_le hn
    omega

/-- R108: `TH[45]` would lie above the range. -/
theorem two_pow_64_lt_exp : ((2 ^ 64 : Nat) : ℝ) < Real.exp (45 : Nat) :=
  lt_exp_natCast (by decide +kernel)

/-- R108: `flog` is the place of the first threshold above `n`, `TH[0]` not counted. -/
theorem flog_eq_findIdx (n : Nat) : flog n = lnThresholds.tail.findIdx (fun t => !decide (t ≤ n)) := by
  rw [flog, List.takeWhile_eq_take_findIdx_not, List.length_take_of_le List.findIdx_le_length]

theorem lnThresholds_le_of_le_flog {n k : Nat} (hn : 1 ≤ n) (hk : k ≤ flog n) :
    lnThresholds[k]'(Nat.lt_succ_of_le (hk.trans (flog_le n))) ≤ n := by
  cases k with
  | zero => exact hn
  | succ j =>
    rw [flog_eq_findIdx] at hk
    have hle := List.not_of_lt_findIdx hk
    rw [List.getElem_tail, Bool.not_eq_false', decide_eq_true_iff] at hle
    exact hle

theorem lt_lnThresholds_flog_succ {n : Nat} (h : flog n + 1 < lnThresholds.length) :
    n < lnThresholds[flog n + 1] := by
  have hin : lnThresholds.tail.findIdx (fun t => !decide (t ≤ n)) < lnThresholds.tail.length := by
    rw [← flog_eq_findIdx]
    exact Nat.lt_of_succ_lt_succ h
  simpa [flog_eq_findIdx] using List.findIdx_getElem (w := hin)

/-! ### The statements -/

/-- Settles O31: the two forms differ only at amount 0, where the other shift is by all 64 places. -/
theorem rotationsAreRotations : Obligations.RotationsAreRotations := by
  intro x n
  rw [BitVec.rotateLeft_def, BitVec.rotateRight_def, rol, ror]
  by_cases hn : n % 64 = 0
  · have hout : x <<< 64 = 0 ∧ x >>> 64 = 0 := ⟨BitVec.shiftLeft_eq_zero le_rfl, BitVec.ushiftRight_eq_zero le_rfl⟩
    simp [hn, hout]
  · simp only [hn, if_false, and_self]

/-- Settles O32: each operation is a truth table of three bits. -/
theorem chooseAndMajorityBitwise : Obligations.ChooseAndMajorityBitwise :=
  fun x y z i hi => ⟨ch_getLsbD x y z hi, by rw [maj_getLsbD, decide_eq_true_iff]⟩

/-- Settles O34: byte by byte, with the position of each byte in the word. -/
theorem sboxReplacesEveryByte : Obligations.SboxReplacesEveryByte := by
  intro t x k hk
  rw [← byteOf_eq_extractLsb' (sbox t x) hk, byteOf_sbox t x hk]
  simp only [sboxByte, byteOf_eq_extractLsb' x hk]

/-- Settles O35: the reversal mirrors the bit number, and each lane is read at its index modulo 8. -/
theorem pboxGathersReversedWords : Obligations.PboxGathersReversedWords := by
  refine ⟨fun x j hj => ?reverse, fun t v r i hi => ?gather⟩
  case reverse =>
    rw [bitrev64, BitVec.getLsbD_reverse, BitVec.getMsbD_eq_getLsbD, decide_eq_true hj, Bool.true_and]
  case gather => simp [pbox, lane]

/-- Settles O36: `TH[flog n]` is at most `n`, and `n` is below the next threshold, or below `e^45` where there is
none. -/
theorem flogIsFloorOfNaturalLog : Obligations.FlogIsFloorOfNaturalLog := by
  intro n hn hmax
  refine ⟨(lnThresholds_le_iff _).mp (lnThresholds_le_of_le_flog hn le_rfl), ?_⟩
  rw [← Nat.cast_add_one]
  by_cases hlast : flog n + 1 < lnThresholds.length
  · rw [← not_le, ← lnThresholds_le_iff hlast, not_le]
    exact lt_lnThresholds_flog_succ hlast
  · have htop : flog n + 1 = 45 := le_antisymm (Nat.succ_le_succ (flog_le n)) (Nat.le_of_not_lt hlast)
    rw [htop]
    exact lt_of_le_of_lt (by exact_mod_cast hmax) two_pow_64_lt_exp

/-- Settles O33: the model's shifts and multipliers are the rule's. -/
theorem avalancheFiveSteps : Obligations.AvalancheFiveSteps :=
  ⟨by decide, fun _ => rfl⟩

end Sys2Proof.Machine
end

section
/-! PROOFS. The statements of the family 41_control_commands.md. First the turn of each agent as a step, and runs of
steps; then the words of one opcode; then a command in a phase the table allows, and the numbers INIT.A computes.
Then each statement by these rules. -/

namespace Sys2Proof.Machine

/-! ### The turns of the agents (R10, R120) -/

/-- R80: where the word in flight is a command's, the completion is that command. -/
theorem complete_of_decode {s : State} {c : Word} {i : Instr} (hc : s.inflight = some c) (hd : decode c = .ok i) :
    complete s = exec i s := by
  simp [complete, hc, hd]

theorem step_of_no_turn {s : State} (h : s.host.turns = []) : step s = complete s := by
  simp [step, h]

theorem step_of_host {s : State} {acc : Access} {ts : List Turn} (h : s.host.turns = .host acc :: ts) :
    step s = .next (access acc (withTurns ts s)) := by
  simp [step, h, takeTurn]

theorem step_of_reset {s : State} {ts : List Turn} (h : s.host.turns = .reset :: ts) :
    step s = .next (resetInput (withTurns ts s)) := by
  simp [step, h, takeTurn]

/-- With no turn waiting there is none to take away. -/
theorem popTurn_of_no_turn {s : State} (h : s.host.turns = []) : popTurn s = s := by
  have hturns : s.host.turns.tail = s.host.turns := by rw [h, List.tail_nil]
  rw [popTurn, hturns]
  rfl

theorem popTurn_of_cons {s : State} {t : Turn} {ts : List Turn} (h : s.host.turns = t :: ts) :
    popTurn s = withTurns ts s := by
  rw [popTurn, h, List.tail_cons]

theorem coreActsNext_iff {s : State} :
    coreActsNext s = true ↔ s.host.turns = [] ∨ ∃ ts, s.host.turns = .core :: ts := by
  unfold coreActsNext
  split <;> simp_all

/-- A run of one step is that step. -/
theorem run_one (s : State) : Host.Core.run core 1 s = step s := by
  have hcore : core.step s = step s := rfl
  simp only [Host.Core.run, hcore]
  cases step s <;> rfl

/-- R29, R120: with nothing in flight, the host's write of a word to CMD puts that word in flight. -/
theorem access_write_cmd {s : State} (h : s.inflight = none) (c : Word) :
    access (.write 0x000 8 c) s = answer .ok (accept c s) :=
  memWrite_offsetOf_of_idle h c .cmd

/-- R120, R296: whether or not a command is in flight, and whatever the turns to come are, the core's turn or a
reset comes within one step more than their number, and leaves no command in flight. -/
theorem exists_run_inflight_eq_none (ts : List Turn) (s : State) (hts : s.host.turns = ts) :
    ∃ k t, k ≤ ts.length + 1 ∧ Host.Core.run core k s = .next t ∧ t.inflight = none := by
  induction ts generalizing s with
  | nil =>
    obtain ⟨t, hcomplete, hidle, -⟩ := complete_ends s
    exact ⟨1, t, le_rfl, run_succ_of_step ((step_of_no_turn hts).trans hcomplete) 0, hidle⟩
  | cons turn ts ih =>
    cases turn with
    | host acc =>
      obtain ⟨k, t, hk, hrun, hidle⟩ := ih (access acc (withTurns ts s)) (access_turns acc _)
      exact ⟨k + 1, t, Nat.succ_le_succ hk, (run_succ_of_step (step_of_host hts) k).trans hrun, hidle⟩
    | core =>
      obtain ⟨t, hcomplete, hidle, -⟩ := complete_ends (withTurns ts s)
      exact ⟨1, t, Nat.le_add_left _ _, run_succ_of_step ((step_of_core hts).trans hcomplete) 0, hidle⟩
    | reset => exact ⟨1, _, Nat.le_add_left _ _, run_succ_of_step (step_of_reset hts) 0, rfl⟩

/-! ### The words of one opcode (R72, R75) -/

@[simp] theorem fieldOp_encode (i : Instr) : fieldOp (encode i) = opcodeOf i := by
  obtain ⟨-, hop, -, -⟩ := packWord_eq_iff.mp (encode_eq_packWord i).symm
  exact hop

/-- R75: a command other than INIT has no operand, so its word is its opcode. -/
theorem encode_of_opcode_ne_one {i : Instr} (hi : (opcodeOf i).toNat ≠ 1) :
    encode i = packWord (opcodeOf i) 0 false := by
  obtain ⟨-, hplain⟩ := exists_fields_iff.mp ⟨i, rfl, rfl, rfl⟩
  obtain ⟨hvar, hliv⟩ := hplain hi
  rw [encode_eq_packWord, hvar, hliv]

/-- R75, R76: a command other than INIT is one word, and every other word of its opcode is illegal. -/
theorem raisesErrIll_of_opcode {i : Instr} {c : Word} (hi : (opcodeOf i).toNat ≠ 1)
    (hop : c.toNat % 16 = (opcodeOf i).toNat) (hne : c ≠ encode i) : raisesErrIll c := by
  have hword : ∀ j, encode j ≠ c := by
    rintro j rfl
    rw [← fieldOp_toNat, fieldOp_encode] at hop
    have hj : (opcodeOf j).toNat ≠ 1 := hop ▸ hi
    rw [encode_of_opcode_ne_one hj, BitVec.eq_of_toNat_eq hop, ← encode_of_opcode_ne_one hi] at hne
    exact hne rfl
  exact fun s hc => complete_of_not_encode hc hword

/-! ### A command in phase (R79, R120) -/

/-- R79, R120: in a phase the table allows, a command is its effect in the frame of every command. -/
theorem exec_of_phase {i : Instr} {s : State} {p : Phase} (h : phaseNext i s.PHASE = some p) :
    exec i s = .next (retire { effectOf i s with PHASE := p }) := by
  rw [exec_eq_runCommand, runCommand_of_phase h]

/-- R122: INIT is allowed in every phase. -/
theorem exec_initOf (v : Variant) (liv : Bool) (s : State) :
    exec (initOf v liv) s = .next (retire { initEffect v liv s with PHASE := .ready }) := by
  rw [exec_of_phase (phaseNext_initOf v liv s.PHASE), effectOf_initOf]

/-! ### The numbers of INIT.A (R108, R123, R124) -/

/-- R37: a round count is far below `2^64`. -/
theorem toNat_ofNat_roundCount (clen : Word) (v : Variant) :
    (BitVec.ofNat 64 (roundCount clen v)).toNat = roundCount clen v := by
  have hk := flog_le (clen.toNat + 1)
  rw [BitVec.toNat_ofNat, Nat.mod_eq_of_lt]
  cases v <;> simp only [roundCount] <;> omega

/-- R17: within the table no index is reduced. -/
theorem tableAt_of_getElem? {t : Table} {k : Nat} {w : Word} (h : t.words[k]? = some w) : tableAt t k = w := by
  obtain ⟨hk, rfl⟩ := List.getElem?_eq_some_iff.mp h
  simp only [tableAt, Nat.mod_eq_of_lt hk]

theorem mkTable_getElem? (c : Cfg) (f : Nat → Word) {k : Nat} (h : k < c.base.len) :
    (mkTable c f).words[k]? = some (f k) := by
  simp [mkTable_words, h]

/-! ### The statements -/

/-- Settles O8: the first step is the acceptance, the second the completion of the word just accepted. -/
theorem acceptedCommandRunsNext : Obligations.AcceptedCommandRunsNext := by
  intro s i ts hidle hturns
  have haccept : step s = .next (answer .ok (accept (encode i) (withTurns (.core :: ts) s))) := by
    rw [step_of_host hturns, access_write_cmd (by simpa using hidle)]
  rw [run_succ_of_step haccept, run_one, step_of_core rfl]
  exact complete_of_decode rfl (decode_eq_ok_iff_encode.mpr rfl)

/-- Settles O10: it holds of a state with a command in flight since it holds of every state. -/
theorem everyAcceptedCommandEnds : Obligations.EveryAcceptedCommandEnds :=
  fun s _ => exists_run_inflight_eq_none s.host.turns s rfl

/-- Settles O13: the round count does not overflow, and word `i` of the table is `adaptive s i`, which reads
`cfg.BASE[i]`. -/
theorem initAOpensMessage : Obligations.InitAOpensMessage := by
  intro liv s
  refine ⟨BitVec.ofNat 64 (roundCount s.CLEN .A), mkTable s.cfg (adaptive s), exec_initOf .A liv s,
    toNat_ofNat_roundCount s.CLEN .A, mkTable_len _ _, fun i b hb => ?words⟩
  case words =>
    obtain ⟨hi, -⟩ := List.getElem?_eq_some_iff.mp hb
    rw [mkTable_getElem? _ _ hi, adaptive, tableAt_of_getElem? hb, sext64]

/-- Settles O5: with its own turn first or none waiting the core completes, and completes a command's word by that
command. -/
theorem stepRunsDecodedCommand : Obligations.StepRunsDecodedCommand := by
  refine ⟨fun s hcore => ?completes, fun s c i hc hd => ⟨fun ts hturns => ?turn, fun hturns => ?noTurn⟩⟩
  case completes =>
    obtain hturns | ⟨ts, hturns⟩ := coreActsNext_iff.mp hcore
    · rw [step_of_no_turn hturns, popTurn_of_no_turn hturns]
    · rw [step_of_core hturns, popTurn_of_cons hturns]
  case turn =>
    rw [step_of_core hturns]
    exact complete_of_decode hc hd
  case noTurn => rw [step_of_no_turn hturns, complete_of_decode hc hd]

/-- Settles O11: NOP is one word, and its rule in its own phase is the end of the command alone. -/
theorem nopEndsAndChangesNothing : Obligations.NopEndsAndChangesNothing := by
  have hword : encode .nop = 0 := rfl
  refine ⟨fun c => ?decodes, fun c hop hne => raisesErrIll_of_opcode (i := .nop) (by decide) hop ?other,
    fun s => exec_of_phase (i := .nop) rfl⟩
  case decodes => rw [decode_eq_ok_iff_encode, hword, eq_comm]
  case other => rwa [hword]

/-- Settles O12: INIT of each variant, with the round count of the variant. -/
theorem initBCDOpenMessage : Obligations.InitBCDOpenMessage :=
  fun liv s => ⟨exec_initOf .B liv s, exec_initOf .C liv s, exec_initOf .D liv s⟩

/-- Settles O14: CLEAR is one word, and ends in IDLE in every phase with a table of as many zeros as `cfg.BASE` has
words. -/
theorem clearZeroesEverythingButCtrl : Obligations.ClearZeroesEverythingButCtrl := by
  have hword : encode .clear = 7 := rfl
  refine ⟨fun c => ?decodes, fun c hop hne => raisesErrIll_of_opcode (i := .clear) (by decide) hop ?other,
    fun s => ⟨mkTable s.cfg fun _ => 0, exec_of_phase (i := .clear) rfl, ?zeros⟩⟩
  case decodes => rw [decode_eq_ok_iff_encode, hword, eq_comm]
  case other => rwa [hword]
  case zeros => simp [mkTable_words]

end Sys2Proof.Machine
end

section
/-! PROOFS. The statements of the family 42_schedule.md. First a loop that writes schedule words in order, with what
it leaves in the words outside its range and in those it writes; then the schedule of every variant as
one such loop over its first sixteen words; then each statement by these rules. -/

namespace Sys2Proof.Machine

/-! ### Loops that write schedule words in increasing index (R140) -/

/-- R140: the words `W[a]` to `W[a + n - 1]` written in increasing index, word `i` being `f` of the words of `W` at
that time. -/
def fillWords (f : Sched → Nat → Word) (a n : Nat) (w : Sched) : Sched :=
  (List.range' a n).foldl (fun u i => setSched u i (f u i)) w

/-- Word `a + n` comes after the words `a` to `a + n - 1`. -/
theorem fillWords_succ (f : Sched → Nat → Word) (a n : Nat) (w : Sched) :
    fillWords f a (n + 1) w = setSched (fillWords f a n w) (a + n) (f (fillWords f a n w) (a + n)) := by
  simp [fillWords, List.range'_1_concat, List.foldl_append]

theorem schedWord_setSched_same (w : Sched) (j : Nat) (x : Word) : schedWord (setSched w j x) j = x := by
  rw [schedWord_setSched, if_pos rfl]

theorem schedWord_setSched_of_ne (w : Sched) {j k : Nat} (x : Word) (hj : j < 100) (hk : k < 100) (h : j ≠ k) :
    schedWord (setSched w j x) k = schedWord w k := by
  rw [schedWord_setSched, Nat.mod_eq_of_lt hj, Nat.mod_eq_of_lt hk, if_neg h]

/-- The words outside the range of the loop are kept. -/
theorem schedWord_fillWords_of_outside (f : Sched → Nat → Word) {a n k : Nat} (w : Sched) (hn : a + n ≤ 100)
    (hk : k < 100) (hout : k < a ∨ a + n ≤ k) : schedWord (fillWords f a n w) k = schedWord w k := by
  induction n with
  | zero => rfl
  | succ n ih =>
    rw [fillWords_succ, schedWord_setSched_of_ne _ _ (by omega) hk (by omega)]
    exact ih (by omega) (by omega)

/-- R140: from `a` on, the word `f` computes for an index is computed from the words before it. -/
def ReadsWordsBefore (f : Sched → Nat → Word) (a : Nat) : Prop :=
  ∀ i, a ≤ i → ∀ u v : Sched, (∀ k < i, schedWord u k = schedWord v k) → f u i = f v i

/-- R140: what the loop writes is `f` of the words the loop leaves, since no word is written again once a later one
has been computed from it. -/
theorem schedWord_fillWords_of_inside {f : Sched → Nat → Word} {a n i : Nat} (hf : ReadsWordsBefore f a) (w : Sched)
    (hn : a + n ≤ 100) (ha : a ≤ i) (hi : i < a + n) :
    schedWord (fillWords f a n w) i = f (fillWords f a n w) i := by
  induction n with
  | zero => omega
  | succ n ih =>
    have hkeeps : ∀ k < a + n, schedWord (fillWords f a (n + 1) w) k = schedWord (fillWords f a n w) k :=
      fun k hk => by rw [fillWords_succ, schedWord_setSched_of_ne _ _ (by omega) (by omega) (by omega)]
    have hsame : f (fillWords f a n w) i = f (fillWords f a (n + 1) w) i :=
      hf i ha _ _ fun k hk => (hkeeps k (by omega)).symm
    rw [← hsame]
    obtain hlt | rfl : i < a + n ∨ i = a + n := by omega
    · rw [hkeeps i hlt, ih (by omega) hlt]
    · rw [fillWords_succ, schedWord_setSched_same]

/-! ### The rotations of the sigmas (R94, R95) -/

theorem rol_eq_rotateLeft (x : Word) (n : Nat) : rol x n = x.rotateLeft n := (rotationsAreRotations x n).1

theorem ror_eq_rotateRight (x : Word) (n : Nat) : ror x n = x.rotateRight n := (rotationsAreRotations x n).2

/-! ### The loops of SCHED (R141 to R145) -/

theorem readsWordsBefore_block (b : Block) (a : Nat) : ReadsWordsBefore (fun _ k => blockWord b k) a :=
  fun _ _ _ _ _ => rfl

theorem readsWordsBefore_zero (a : Nat) : ReadsWordsBefore (fun _ _ => 0) a :=
  fun _ _ _ _ _ => rfl

/-- R145: the sum reads 16, 15, 7 and 2 places back. -/
theorem schedSum_congr {u v : Sched} {i : Nat} (hi : 16 ≤ i) (h : ∀ k < i, schedWord u k = schedWord v k)
    (s0 s1 : Word → Word) : schedSum u i s0 s1 = schedSum v i s0 s1 := by
  have hback : ∀ d, 0 < d → schedWord u (i - d) = schedWord v (i - d) := fun d hd => h _ (by omega)
  simp only [schedSum, hback, Nat.ofNat_pos]

/-- R141 to R143: the word `i` of a variant's schedule, of the words before it. H-D computes none (R144). -/
def scheduledWord (v : Variant) (w : Sched) (i : Nat) : Word :=
  match v with
  | .A => schedSum w i (smallSigma0A i) (smallSigma1A i)
  | .B => schedSum w i smallSigma0B smallSigma1B
  | .C => avalanche (schedSum w i smallSigma0C smallSigma1C)
  | .D => 0

theorem readsWordsBefore_scheduledWord (v : Variant) : ReadsWordsBefore (scheduledWord v) 16 := by
  intro i hi u w h
  cases v
  case D => rfl
  case C => exact congrArg avalanche (schedSum_congr hi h _ _)
  all_goals exact schedSum_congr hi h _ _

/-- R145: the first `n` words of `W` after the load of the block. -/
def loadBlock (b : Block) (n : Nat) (w : Sched) : Sched := fillWords (fun _ k => blockWord b k) 0 n w

theorem foldl_loadStep (b : Block) (n : Nat) (w : Sched) : (List.range n).foldl (loadStep b) w = loadBlock b n w := by
  rw [List.range_eq_range']
  rfl

theorem schedWord_loadBlock (b : Block) {n k : Nat} (w : Sched) (hn : n ≤ 16) (hk : k < n) :
    schedWord (loadBlock b n w) k = blockWord b k :=
  schedWord_fillWords_of_inside (readsWordsBefore_block b 0) w (by omega) (by omega) (by omega)

theorem schedWord_loadBlock_of_ge (b : Block) {n k : Nat} (w : Sched) (hk : k < 100) (hkn : n ≤ k) :
    schedWord (loadBlock b n w) k = schedWord w k :=
  schedWord_fillWords_of_outside _ w (by omega) hk (by omega)

/-- R141 to R144: `W` before the first computed word: the block loaded, and for H-C the eight zeros after it. -/
def schedStart (v : Variant) (b : Block) (w : Sched) : Sched :=
  match v with
  | .A => loadBlock b 16 w
  | .B => loadBlock b 16 w
  | .C => fillWords (fun _ _ => 0) 8 8 (loadBlock b 8 w)
  | .D => w

/-- R145: the block words stand in `W` in order; H-D has no schedule. -/
theorem schedWord_schedStart_block {v : Variant} (b : Block) {k : Nat} (w : Sched) (hv : v ≠ .D) (hk : k < nblk v) :
    schedWord (schedStart v b w) k = blockWord b k := by
  cases v
  case D => exact absurd rfl hv
  case C =>
    have hk8 : k < 8 := hk
    rw [schedStart, schedWord_fillWords_of_outside _ _ (by decide) (by omega) (.inl hk8)]
    exact schedWord_loadBlock b w (by decide) hk8
  all_goals exact schedWord_loadBlock b w le_rfl hk

/-- R143 (c): the starting words that H-C's block does not fill are zero. -/
theorem schedWord_schedStart_zero (b : Block) {k : Nat} (w : Sched) (h8 : 8 ≤ k) (hk : k < 16) :
    schedWord (schedStart .C b w) k = 0 :=
  schedWord_fillWords_of_inside (readsWordsBefore_zero 8) _ (by decide) h8 hk

theorem schedWord_schedStart_of_ge_nw (v : Variant) (b : Block) {k : Nat} (w : Sched) (hnw : nw v ≤ k)
    (hk : k < 100) : schedWord (schedStart v b w) k = schedWord w k := by
  cases v <;> simp only [nw] at hnw
  case D => rfl
  case C =>
    rw [schedStart, schedWord_fillWords_of_outside _ _ (by decide) hk (by omega)]
    exact schedWord_loadBlock_of_ge b w hk (by omega)
  all_goals exact schedWord_loadBlock_of_ge b w hk (by omega)

/-- R140: the schedule of every variant is one loop, from word 16 to word `NW`. -/
theorem schedule_eq_fillWords (v : Variant) (b : Block) (w : Sched) :
    schedule v b w = fillWords (scheduledWord v) 16 (nw v - 16) (schedStart v b w) := by
  cases v
  case A => rw [schedule, scheduleA, foldl_loadStep]; rfl
  case B => rw [schedule, scheduleB, foldl_loadStep]; rfl
  case C => rw [schedule, scheduleC, foldl_loadStep]; rfl
  case D => rfl

theorem nw_le_hundred (v : Variant) : nw v ≤ 100 := by
  cases v <;> decide

theorem schedWord_schedule_of_lt (v : Variant) (b : Block) {k : Nat} (w : Sched) (hk : k < 16) :
    schedWord (schedule v b w) k = schedWord (schedStart v b w) k := by
  have hnw := nw_le_hundred v
  rw [schedule_eq_fillWords, schedWord_fillWords_of_outside _ _ (by omega) (by omega) (.inl hk)]

/-- R141 to R143: every word from 16 to `NW` is the variant's word over the finished schedule. -/
theorem schedWord_schedule_computed {v : Variant} (b : Block) {i : Nat} (w : Sched) (h16 : 16 ≤ i) (hi : i < nw v) :
    schedWord (schedule v b w) i = scheduledWord v (schedule v b w) i := by
  have hnw := nw_le_hundred v
  rw [schedule_eq_fillWords]
  exact schedWord_fillWords_of_inside (readsWordsBefore_scheduledWord v) _ (by omega) h16 (by omega)

/-- R140: SCHED writes `W[0..NW-1]` only. -/
theorem schedWord_schedule_of_ge_nw (v : Variant) (b : Block) {k : Nat} (w : Sched) (hnw : nw v ≤ k) (hk : k < 100) :
    schedWord (schedule v b w) k = schedWord w k := by
  have hle := nw_le_hundred v
  rw [schedule_eq_fillWords, schedWord_fillWords_of_outside _ _ (by omega) hk (by omega),
    schedWord_schedStart_of_ge_nw v b w hnw hk]

/-- The first words of the schedule of H-A, H-B and H-C are the block. -/
theorem schedule_getElem_block {v : Variant} (b : Block) (w : Sched) {k : Nat} (hv : v ≠ .D) (hk : k < nblk v)
    (hk16 : k < 16) : (schedule v b w)[k] = b[k] := by
  rw [← schedWord_eq, ← blockWord_eq, schedWord_schedule_of_lt v b w hk16, schedWord_schedStart_block b w hv hk]

theorem schedule_getElem_of_ge_nw (v : Variant) (b : Block) (w : Sched) {k : Nat} (hnw : nw v ≤ k) (hk : k < 100) :
    (schedule v b w)[k] = w[k] := by
  rw [← schedWord_eq, ← schedWord_eq, schedWord_schedule_of_ge_nw v b w hnw hk]

theorem schedule_getElem_computed (v : Variant) (b : Block) (w : Sched) {i : Nat} (h16 : 16 ≤ i) (hi : i < nw v)
    (hi100 : i < 100) : (schedule v b w)[i] = scheduledWord v (schedule v b w) i := by
  rw [← schedWord_eq, schedWord_schedule_computed b w h16 hi]

/-! ### The command (R140) -/

/-- R140: SCHED in its own phase, by the variant. -/
theorem exec_sched_of_ready {s : State} {v : Variant} (hphase : s.PHASE = .ready) (hvar : s.VAR = v) :
    exec .sched s =
      .next { s with W := schedule v s.B s.W, PHASE := .schd, inflight := none, DONE := true } := by
  subst hvar
  exact exec_of_phase (i := .sched) (by rw [phaseNext, if_pos hphase])

/-! ### The statements -/

/-- Settles O15: SCHED of H-A reaches the end of `W`. -/
theorem schedAWritesSchedule : Obligations.SchedAWritesSchedule := by
  intro s hphase hvar
  refine ⟨schedule .A s.B s.W, exec_sched_of_ready hphase hvar,
    fun k hk => schedule_getElem_block s.B s.W (by decide) hk hk, fun i h16 hi => ?words⟩
  case words =>
    rw [schedule_getElem_computed .A s.B s.W h16 hi]
    simp only [scheduledWord, schedSum, smallSigma0A, smallSigma1A, rol_eq_rotateLeft, ror_eq_rotateRight,
      ← schedWord_eq]

/-- Settles O16: the loop ends at `NW`, and what lies above it neither the loop nor the load writes. -/
theorem schedBWritesSchedule : Obligations.SchedBWritesSchedule := by
  intro s hphase hvar
  refine ⟨schedule .B s.B s.W, exec_sched_of_ready hphase hvar,
    fun k hk => schedule_getElem_block s.B s.W (by decide) hk hk, fun i h16 hi => ?words,
    fun i h80 hi => schedule_getElem_of_ge_nw .B s.B s.W h80 hi⟩
  case words =>
    rw [schedule_getElem_computed .B s.B s.W h16 hi]
    simp only [scheduledWord, schedSum, smallSigma0B, smallSigma1B, rol_eq_rotateLeft, ror_eq_rotateRight,
      ← schedWord_eq]

/-- Settles O17: the zeros stand between the load of eight words and the loop, which mixes each word before it is
stored. -/
theorem schedCWritesSchedule : Obligations.SchedCWritesSchedule := by
  intro s hphase hvar
  refine ⟨schedule .C s.B s.W, exec_sched_of_ready hphase hvar,
    fun k hk => schedule_getElem_block s.B s.W (by decide) hk (by omega), fun k h8 hk => ?zeros,
    fun i h16 hi => ?words, fun i h64 hi => schedule_getElem_of_ge_nw .C s.B s.W h64 hi⟩
  case zeros => rw [← schedWord_eq, schedWord_schedule_of_lt .C s.B s.W hk, schedWord_schedStart_zero s.B s.W h8 hk]
  case words =>
    rw [schedule_getElem_computed .C s.B s.W h16 hi]
    simp only [scheduledWord, schedSum, smallSigma0C, smallSigma1C, ror_eq_rotateRight, ← schedWord_eq]

/-- Settles O18: the schedule of H-D is the `W` there was. -/
theorem schedDWritesNothing : Obligations.SchedDWritesNothing :=
  fun _ hphase hvar => exec_sched_of_ready hphase hvar

end Sys2Proof.Machine
end

section
/-! PROOFS. The statements of the family 43_rounds.md. First the run of ROUNDS one round at a time, in the terms of
R161; then what each variant puts in those terms, by the model's definitions in their order: the rotations, the
constant and the message term, the mix step, the side effect; then each statement by these rules. -/

namespace Sys2Proof.Machine

/-! ### The rounds one by one (R160, R161) -/

theorem runRounds_zero_work (s : State) : (runRounds s 0).work = loadedFrom s.S := rfl

theorem runRounds_succ_work (s : State) (r : Nat) :
    (runRounds s (r + 1)).work =
      extra s (roundT1 s (runRounds s r).work r) (roundT2 s (runRounds s r).work r) r
        (shiftOf (roundT1 s (runRounds s r).work r) (roundT2 s (runRounds s r).work r) (runRounds s r).work) := by
  rw [runRounds_succ]; rfl

theorem runRounds_succ_S (s : State) (r : Nat) :
    (runRounds s (r + 1)).S =
      side s (roundT1 s (runRounds s r).work r) (roundConst s r) r (runRounds s r).S := by
  rw [runRounds_succ]; rfl

/-- R161: `t1` by the variant's rotations, constant and message term. -/
theorem roundT1_eq_of_var {s : State} {v : Variant} (hvar : s.VAR = v) (w : Working) (r : Nat) :
    roundT1 s w r = roundT1Of (bigSigma1 v w.e r) (roundConst s r) (messageTerm s r) w := by
  subst hvar; rfl

/-- R161: `t2` by the variant's rotations. -/
theorem roundT2_eq_of_var {s : State} {v : Variant} (hvar : s.VAR = v) (w : Working) (r : Nat) :
    roundT2 s w r = roundT2Of (bigSigma0 v w.a r) w := by
  subst hvar; rfl

/-! ### The rotations (R99, R162, R164, R168, R171) -/

theorem dyn_eq_parityRotate (x : Word) (n r : Nat) : dyn x n r = parityRotate r x n := by
  rw [dyn, parityRotate, ror_eq_rotateRight, rol_eq_rotateLeft]

theorem bigSigma1_A (e : Word) (r : Nat) :
    bigSigma1 .A e r =
      e.rotateRight (r % 7 + 14) ^^^ e.rotateLeft (r % 6 + 18) ^^^ e.rotateRight (r % 9 + 41) := by
  simp only [bigSigma1, ror_eq_rotateRight, rol_eq_rotateLeft]

theorem bigSigma0_A (a : Word) (r : Nat) :
    bigSigma0 .A a r =
      a.rotateLeft (r % 8 + 28) ^^^ a.rotateRight (r % 5 + 34) ^^^ a.rotateLeft (r % 11 + 39) := by
  simp only [bigSigma0, ror_eq_rotateRight, rol_eq_rotateLeft]

theorem bigSigma1_B (e : Word) (r : Nat) : bigSigma1 .B e r = fixedS1 e := by
  simp only [bigSigma1, fixedS1, ror_eq_rotateRight, rol_eq_rotateLeft]

theorem bigSigma0_B (a : Word) (r : Nat) : bigSigma0 .B a r = fixedS0 a := by
  simp only [bigSigma0, fixedS0, ror_eq_rotateRight]

theorem bigSigma1_C (e : Word) (r : Nat) :
    bigSigma1 .C e r = parityRotate r e 14 ^^^ parityRotate r e 18 ^^^ parityRotate r e 41 := by
  simp only [bigSigma1, dyn_eq_parityRotate]

theorem bigSigma0_C (a : Word) (r : Nat) :
    bigSigma0 .C a r = parityRotate r a 28 ^^^ parityRotate r a 34 ^^^ parityRotate r a 39 := by
  simp only [bigSigma0, dyn_eq_parityRotate]

/-- R171: H-D rotates `e` as H-B does. -/
theorem bigSigma1_D (e : Word) (r : Nat) : bigSigma1 .D e r = fixedS1 e := bigSigma1_B e r

/-- R171: H-D rotates `a` as H-B does. -/
theorem bigSigma0_D (a : Word) (r : Nat) : bigSigma0 .D a r = fixedS0 a := bigSigma0_B a r

/-! ### The constant and the message term (R163, R165, R166, R169, R172) -/

/-- R163: the index of `AC` is reduced by its own length, which is `cfg.NBASE` (R25). -/
theorem roundConst_A {s : State} (hvar : s.VAR = .A) (hlen : s.AC.len = s.cfg.base.len) (r : Nat) :
    roundConst s r = s.AC.words.getD (r % s.cfg.base.len) 0 := by
  rw [roundConst, hvar, ← hlen]; exact tableAt_eq_getD s.AC r

theorem messageTerm_A {s : State} (hvar : s.VAR = .A) (r : Nat) :
    messageTerm s r = s.W[r % 100]'(by omega) := by
  rw [messageTerm, hvar]; exact schedWord_eq s.W (by omega)

theorem roundConst_B {s : State} (hvar : s.VAR = .B) (r : Nat) :
    roundConst s r =
      if r % 2 = 0 then s.cfg.kb.words.getD (s.BLKIDX.toNat % s.cfg.kb.len) 0
      else ~~~s.cfg.kb.words.getD (s.BLKIDX.toNat % s.cfg.kb.len) 0 := by
  rw [roundConst, hvar, ← tableAt_eq_getD]; rfl

theorem messageTerm_B {s : State} (hvar : s.VAR = .B) (r : Nat) :
    messageTerm s r = s.W[r % 80]'(by omega) := by
  rw [messageTerm, hvar]; exact schedWord_eq s.W (by omega)

theorem roundConst_C {s : State} (hvar : s.VAR = .C) (r : Nat) :
    roundConst s r = s.cfg.rcc.words.getD (r % s.cfg.rcc.len) 0 ^^^ s.W[r % 64]'(by omega) := by
  rw [roundConst, hvar, ← tableAt_eq_getD, ← schedWord_eq]

theorem messageTerm_C {s : State} (hvar : s.VAR = .C) (r : Nat) :
    messageTerm s r = s.W[r % 64]'(by omega) := by
  rw [messageTerm, hvar]; exact schedWord_eq s.W (by omega)

theorem roundConst_D {s : State} (hvar : s.VAR = .D) (r : Nat) :
    roundConst s r = s.cfg.rcd.words.getD (r % s.cfg.rcd.len) 0 ^^^ s.B[r % 8]'(by omega) := by
  rw [roundConst, hvar, ← tableAt_eq_getD, ← blockWord_eq]

theorem messageTerm_D {s : State} (hvar : s.VAR = .D) (r : Nat) :
    messageTerm s r = sbox s.cfg.sboxD (s.B[r % 8]'(by omega)) := by
  rw [messageTerm, hvar, ← blockWord_eq]

/-! ### What a round does beside the shift (R167, R170, R173) -/

theorem extra_of_ne_C {s : State} (h : s.VAR ≠ .C) (t1 t2 : Word) (r : Nat) (w : Working) :
    extra s t1 t2 r w = w := by
  cases hvar : s.VAR with
  | C => exact absurd hvar h
  | A | B | D => rw [extra, hvar]

/-- R170: H-C mixes `t1` and the S-box of `t2` into the new `e` and `a`. -/
theorem extra_C {s : State} (hvar : s.VAR = .C) (t1 t2 : Word) (r : Nat) (w : Working) :
    extra s t1 t2 r w = { w with
      e := w.e ^^^ (parityRotate r t1 13 ^^^ sbox s.cfg.sboxC t2)
      a := w.a ^^^ parityRotate r (parityRotate r t1 13 ^^^ sbox s.cfg.sboxC t2) 19 } := by
  simp only [extra, hvar, extraC, dyn_eq_parityRotate]

theorem side_of_A_or_C {s : State} (h : s.VAR = .A ∨ s.VAR = .C) (t1 k : Word) (r : Nat) (v : Lanes) :
    side s t1 k r v = v := by
  rcases h with hvar | hvar <;> rw [side, hvar]

theorem side_B {s : State} (hvar : s.VAR = .B) (t1 k : Word) (r : Nat) (v : Lanes) :
    side s t1 k r v = v.set (r % 8) (v[r % 8]'(by omega) ^^^ (t1 ^^^ k)) (by omega) := by
  rw [side, hvar]; rfl

theorem side_D {s : State} (hvar : s.VAR = .D) (t1 k : Word) (r : Nat) (v : Lanes) :
    side s t1 k r v = if r % 10 = 0 then pbox s.cfg.pbox v r else v := by
  rw [side, hvar]

/-- R167, R173: the rounds of H-A and H-C keep the hash state. -/
theorem runRounds_S_of_A_or_C {s : State} (h : s.VAR = .A ∨ s.VAR = .C) (n : Nat) : (runRounds s n).S = s.S := by
  induction n with
  | zero => rfl
  | succ r ih => rw [runRounds_succ_S, side_of_A_or_C h, ih]

/-! ### The command (R160) -/

/-- R160: ROUNDS in its own phase writes `a..h` and `S` and nothing else. -/
theorem exec_rounds_of_schd {s : State} (hphase : s.PHASE = .schd) :
    exec .rounds s = .next { s with
      work := (runRounds s s.NROUNDS.toNat).work, S := (runRounds s s.NROUNDS.toNat).S, PHASE := .rnds
      inflight := none, DONE := true } :=
  exec_of_phase (i := .rounds) (by rw [phaseNext, if_pos hphase])

/-- R160: for H-A and H-C it writes `a..h` only. -/
theorem exec_rounds_of_A_or_C {s : State} (hphase : s.PHASE = .schd) (h : s.VAR = .A ∨ s.VAR = .C) :
    exec .rounds s = .next { s with
      work := (runRounds s s.NROUNDS.toNat).work, PHASE := .rnds, inflight := none, DONE := true } := by
  rw [exec_rounds_of_schd hphase, runRounds_S_of_A_or_C h]

/-! ### The statements -/

/-- Settles O19: the sequence is the run of the model's rounds, of which H-A's change no `S`. -/
theorem roundsARunsEveryRound : Obligations.RoundsARunsEveryRound := by
  intro s hphase hvar hlen
  refine ⟨fun r => (runRounds s r).work, runRounds_zero_work s, fun r _ => ?round,
    exec_rounds_of_A_or_C hphase (.inl hvar)⟩
  case round =>
    have hne : s.VAR ≠ .C := by rw [hvar]; decide
    simp only [runRounds_succ_work, extra_of_ne_C hne, roundT1_eq_of_var hvar, roundT2_eq_of_var hvar, bigSigma1_A,
      bigSigma0_A, roundConst_A hvar hlen, messageTerm_A hvar]

/-- Settles O20: the side effect reads the same `t1` and constant as the shift of its round. -/
theorem roundsBRunsEveryRound : Obligations.RoundsBRunsEveryRound := by
  intro s hphase hvar
  refine ⟨fun r => (runRounds s r).work, fun r => (runRounds s r).S, runRounds_zero_work s, rfl,
    fun r _ => ⟨?shift, ?side⟩, exec_rounds_of_schd hphase⟩
  case shift =>
    have hne : s.VAR ≠ .C := by rw [hvar]; decide
    simp only [runRounds_succ_work, extra_of_ne_C hne, roundT1_eq_of_var hvar, roundT2_eq_of_var hvar, bigSigma1_B,
      bigSigma0_B, roundConst_B hvar, messageTerm_B hvar]
  case side =>
    simp only [runRounds_succ_S, side_B hvar, roundT1_eq_of_var hvar, bigSigma1_B, roundConst_B hvar,
      messageTerm_B hvar]

/-- Settles O21: the mix step comes after the shift, on its new `e` and `a`. -/
theorem roundsCRunsEveryRound : Obligations.RoundsCRunsEveryRound := by
  intro s hphase hvar
  refine ⟨fun r => (runRounds s r).work, runRounds_zero_work s, fun r _ => ?round,
    exec_rounds_of_A_or_C hphase (.inr hvar)⟩
  case round =>
    simp only [runRounds_succ_work, extra_C hvar, roundT1_eq_of_var hvar, roundT2_eq_of_var hvar, bigSigma1_C,
      bigSigma0_C, roundConst_C hvar, messageTerm_C hvar]

/-- Settles O22: the P-box acts on `S` alone, so the working words run as if it were not there. -/
theorem roundsDRunsEveryRound : Obligations.RoundsDRunsEveryRound := by
  intro s hphase hvar
  refine ⟨fun r => (runRounds s r).work, fun r => (runRounds s r).S, runRounds_zero_work s, rfl,
    fun r _ => ⟨?shift, ?side⟩, exec_rounds_of_schd hphase⟩
  case shift =>
    have hne : s.VAR ≠ .C := by rw [hvar]; decide
    simp only [runRounds_succ_work, extra_of_ne_C hne, roundT1_eq_of_var hvar, roundT2_eq_of_var hvar, bigSigma1_D,
      bigSigma0_D, roundConst_D hvar, messageTerm_D hvar]
  case side => simp only [runRounds_succ_S, side_D hvar]

end Sys2Proof.Machine
end

section
/-! PROOFS. The statements of the family 44_fold_block.md. First the lanes that FOLD leaves, with the permutation of
H-A and without one; then commands run one after another, each of which takes no notice of how the one before it
ended; then each statement by these rules. -/

namespace Sys2Proof.Machine

/-! ### The lanes after the fold (R201 to R203) -/

/-- R201, R202: only H-A permutes the lanes after the sum fold. -/
theorem foldLanes_of_ne_A {v : Variant} (h : v ≠ .A) (w : Working) (x : Lanes) : foldLanes v w x = sumFold w x := by
  cases v with
  | A => exact absurd rfl h
  | B | C | D => rfl

/-- R104: `PERM_A` entry by entry. -/
theorem permA_eq (v : Lanes) : permA v = #v[v[2], v[3], v[7], v[0], v[5], v[6], v[1], v[4]] := rfl

/-- R203: each lane of H-A takes another lane of the sum fold. -/
theorem foldLanes_A (w : Working) (x : Lanes) :
    foldLanes .A w x = #v[x[2] ^^^ sum8 w, x[3] ^^^ sum8 w, x[7] ^^^ sum8 w, x[0] ^^^ sum8 w,
      x[5] ^^^ sum8 w, x[6] ^^^ sum8 w, x[1] ^^^ sum8 w, x[4] ^^^ sum8 w] := by
  simp only [foldLanes, permA_eq, sumFold_getElem]

/-- R201, corner case: both lanes receive the same sum, which cancels. -/
theorem sumFold_getElem_xor (w : Working) (x : Lanes) {i j : Nat} (hi : i < 8) (hj : j < 8) :
    (sumFold w x)[i] ^^^ (sumFold w x)[j] = x[i] ^^^ x[j] := by
  rw [sumFold_getElem, sumFold_getElem, BitVec.xor_comm x[j], BitVec.xor_assoc, ← BitVec.xor_assoc (sum8 w),
    BitVec.xor_self, BitVec.zero_xor]

/-- R200: FOLD in its own phase writes `S` and `BLKIDX` and nothing else. -/
theorem exec_fold_of_rnds {s : State} (hphase : s.PHASE = .rnds) :
    exec .fold s = .next { s with
      S := foldLanes s.VAR s.work s.S, BLKIDX := s.BLKIDX + 1, PHASE := .ready, inflight := none, DONE := true } :=
  exec_of_phase (i := .fold) (by rw [phaseNext, if_pos hphase])

/-! ### Commands one after another (R79, R120) -/

/-- The end of a command that leaves the core in phase `p`. -/
def endedIn (p : Phase) (s : State) : State := retire { s with PHASE := p }

/-- Of two ends only the second is seen. -/
theorem endedIn_endedIn (q p : Phase) (s : State) : endedIn q (endedIn p s) = endedIn q s := rfl

/-- No command's rule reads the phase, DONE or the command in flight, or writes them. -/
theorem effectOf_endedIn (i : Instr) (p : Phase) (s : State) :
    effectOf i (endedIn p s) = endedIn p (effectOf i s) := by
  cases i <;> rfl

/-- A command right after another: the state is that of the two rules, and the end is that of the second. -/
theorem exec_endedIn {i : Instr} {p q : Phase} (h : phaseNext i p = some q) (s : State) :
    exec i (endedIn p s) = .next (endedIn q (effectOf i s)) := by
  have hexec : exec i (endedIn p s) = .next (endedIn q (effectOf i (endedIn p s))) := exec_of_phase h
  rw [hexec, effectOf_endedIn, endedIn_endedIn]

/-- R205: BLOCK in its own phase. -/
theorem exec_block_of_ready {s : State} (hphase : s.PHASE = .ready) :
    exec .block s = .next (endedIn .ready (blockEffect s)) :=
  exec_of_phase (i := .block) (by rw [phaseNext, if_pos hphase])

/-- R79, R263: a command out of phase sets ERR_SEQ, ends, and changes nothing else. -/
theorem exec_out_of_phase {i : Instr} {s : State} (h : phaseNext i s.PHASE = none) :
    exec i s = .next { s with ERR_SEQ := true, inflight := none, DONE := true } := by
  rw [exec_eq_runCommand, runCommand_out_of_phase h]
  rfl

/-- R144, R205: of the three rules of BLOCK only the schedule writes `W`, and that of H-D does not. -/
theorem blockEffect_W_of_D {s : State} (hvar : s.VAR = .D) : (blockEffect s).W = s.W := by
  simp only [blockEffect, foldEffect_W, roundsEffect_W, schedEffect_W, hvar, schedule]

/-! ### The statements -/

/-- Settles O23: lane by lane, in place or as H-A gathers them. -/
theorem foldAddsSumIntoEveryLane : Obligations.FoldAddsSumIntoEveryLane := by
  intro s hphase
  refine ⟨foldLanes s.VAR s.work s.S, exec_fold_of_rnds hphase, fun hvar i hi => ?inPlace, fun hvar => ?gathered⟩
  case inPlace => rw [foldLanes_of_ne_A hvar, sumFold_getElem, sum8]
  case gathered => rw [hvar, foldLanes_A, sum8]

/-- Settles O24: without the permutation FOLD is the sum fold, where the sum cancels. -/
theorem sumFoldKeepsLaneDifferences : Obligations.SumFoldKeepsLaneDifferences := by
  intro s hphase hvar
  refine ⟨_, exec_fold_of_rnds hphase, fun i j hi hj => ?_⟩
  simp only [foldLanes_of_ne_A hvar]
  exact sumFold_getElem_xor s.work s.S hi hj

/-- Settles O25: the three rules of BLOCK are those of SCHED, ROUNDS and FOLD, whose own ends leave no trace. -/
theorem blockIsSchedThenRoundsThenFold : Obligations.BlockIsSchedThenRoundsThenFold := by
  have hword : encode .block = 5 := rfl
  refine ⟨fun c => ?decodes, fun c hop hne => raisesErrIll_of_opcode (i := .block) (by decide) hop ?other,
    fun s => ⟨fun hphase => ?inPhase, fun hphase => ?outOfPhase⟩⟩
  case decodes => rw [decode_eq_ok_iff_encode, hword, eq_comm]
  case other => rwa [hword]
  case inPhase =>
    have hsched : exec .sched s = .next (endedIn .schd (schedEffect s)) := exec_sched_of_ready hphase rfl
    exact ⟨_, _, _, hsched, exec_endedIn (i := .rounds) rfl _, exec_endedIn (i := .fold) rfl _,
      exec_block_of_ready hphase, rfl⟩
  case outOfPhase => exact exec_out_of_phase (i := .block) (by rw [phaseNext, if_neg hphase])

/-- Settles O26: the frame of the three rules together, in READY from READY. -/
theorem blockWritesOnlyWorkingState : Obligations.BlockWritesOnlyWorkingState := by
  intro s hphase
  refine ⟨_, exec_block_of_ready hphase, ?frame, blockEffect_W_of_D⟩
  case frame =>
    rw [← hphase, blockEffect_frame]
    rfl

end Sys2Proof.Machine
end

section
/-! PROOFS. The statements of the family 45_final.md. First a pass that rewrites the lanes in order, in place, and
what each of its lanes reads: below lane 8 a lane not yet rewritten, after the wrap one rewritten in this pass; then
the passes of H-B and of H-C and H-D as such passes; then each statement by these rules. -/

namespace Sys2Proof.Machine

/-! ### Passes over the lanes in place (R217, R218) -/

/-- R217, R218: lane `i` rewritten from itself and the lanes 1 and 3 places on, as they are at that moment. -/
def rewriteLane (f : Nat → Word → Word → Word → Word) (v : Lanes) (i : Nat) : Lanes :=
  setLane v i (f i (lane v i) (lane v (i + 1)) (lane v (i + 3)))

/-- R217, R218: the lanes `0` to `n - 1` rewritten in that order, in place. -/
def rewriteLanes (f : Nat → Word → Word → Word → Word) (n : Nat) (v : Lanes) : Lanes :=
  (List.range n).foldl (rewriteLane f) v

/-- Lane `n` comes after the lanes `0` to `n - 1`. -/
theorem rewriteLanes_succ (f : Nat → Word → Word → Word → Word) (n : Nat) (v : Lanes) :
    rewriteLanes f (n + 1) v = rewriteLane f (rewriteLanes f n v) n := by
  simp [rewriteLanes, List.range_succ, List.foldl_append]

theorem lane_rewriteLane_same (f : Nat → Word → Word → Word → Word) (v : Lanes) (i : Nat) :
    lane (rewriteLane f v i) i = f i (lane v i) (lane v (i + 1)) (lane v (i + 3)) := by
  rw [rewriteLane, lane_setLane, if_pos rfl]

theorem lane_rewriteLane_of_ne (f : Nat → Word → Word → Word → Word) (v : Lanes) {i k : Nat} (h : i % 8 ≠ k % 8) :
    lane (rewriteLane f v i) k = lane v k := by
  rw [rewriteLane, lane_setLane, if_neg h]

/-- The part of the pass from lane `m` to lane `n` keeps every lane it does not rewrite. -/
theorem lane_rewriteLanes_of_outside (f : Nat → Word → Word → Word → Word) (v : Lanes) {m n k : Nat} (hmn : m ≤ n)
    (hout : ∀ i, m ≤ i → i < n → i % 8 ≠ k % 8) : lane (rewriteLanes f n v) k = lane (rewriteLanes f m v) k := by
  induction n, hmn using Nat.le_induction with
  | base => rfl
  | succ n hmn ih =>
    rw [rewriteLanes_succ, lane_rewriteLane_of_ne f _ (hout n hmn (by omega))]
    exact ih fun i hi hin => hout i hi (by omega)

/-- What a pass from `v` to `v'` reads as lane `j`: below lane 8 the lane is not yet rewritten, after the wrap it
is. -/
def laneInPass (v v' : Lanes) (j : Nat) : Word := if j < 8 then lane v j else lane v' j

/-- When the turn of lane `i` comes, all eight lanes from it on are as `laneInPass` says. -/
theorem lane_rewriteLanes_eq_laneInPass (f : Nat → Word → Word → Word → Word) (v : Lanes) {i j : Nat} (hi : i < 8)
    (hij : i ≤ j) (hj : j < i + 8) : lane (rewriteLanes f i v) j = laneInPass v (rewriteLanes f 8 v) j := by
  by_cases h8 : j < 8
  · rw [laneInPass, if_pos h8]
    exact lane_rewriteLanes_of_outside f v (Nat.zero_le i) (by omega)
  · rw [laneInPass, if_neg h8]
    exact (lane_rewriteLanes_of_outside f v hi.le (by omega)).symm

/-- R217, R218: `v'` is `v` with the lanes rewritten by `f` in order, in place. -/
def IsLanePass (f : Nat → Word → Word → Word → Word) (v v' : Lanes) : Prop :=
  ∀ i, i < 8 → lane v' i = f i (lane v i) (laneInPass v v' (i + 1)) (laneInPass v v' (i + 3))

theorem isLanePass_rewriteLanes (f : Nat → Word → Word → Word → Word) (v : Lanes) :
    IsLanePass f v (rewriteLanes f 8 v) := by
  intro i hi
  have hself : laneInPass v (rewriteLanes f 8 v) i = lane v i := if_pos hi
  calc lane (rewriteLanes f 8 v) i
      = lane (rewriteLanes f (i + 1) v) i := lane_rewriteLanes_of_outside f v (by omega) (by omega)
    _ = f i (lane (rewriteLanes f i v) i) (lane (rewriteLanes f i v) (i + 1)) (lane (rewriteLanes f i v) (i + 3)) := by
        rw [rewriteLanes_succ, lane_rewriteLane_same]
    _ = f i (lane v i) (laneInPass v (rewriteLanes f 8 v) (i + 1)) (laneInPass v (rewriteLanes f 8 v) (i + 3)) := by
        rw [lane_rewriteLanes_eq_laneInPass f v hi le_rfl (by omega), hself,
          lane_rewriteLanes_eq_laneInPass f v hi (by omega) (by omega),
          lane_rewriteLanes_eq_laneInPass f v hi (by omega) (by omega)]

/-! ### The passes of H-B (R217) -/

/-- R217 (b), (c), (d): the three statements of lane `i` as one word, of the lane and of the lanes 1 and 3 places
on. -/
def mixB (c : Cfg) (i : Nat) (x y z : Word) : Word :=
  (x ^^^ (tableAt c.kb i ^^^ lane c.ivB i)) ^^^ (rol y (i % 7 + 1) * mulB) ^^^ ror z (i % 5 + 21)

theorem setLane_setLane (v : Lanes) (i : Nat) (x y : Word) : setLane (setLane v i x) i y = setLane v i y := by
  simp [setLane]

/-- R217: the three statements write lane `i` alone, so its neighbours are the same for all three. -/
theorem laneB_eq_rewriteLane (c : Cfg) (v : Lanes) (i : Nat) : laneB c v i = rewriteLane (mixB c) v i := by
  have h1 : i % 8 ≠ (i + 1) % 8 := by omega
  have h3 : i % 8 ≠ (i + 3) % 8 := by omega
  simp only [laneB, rewriteLane, mixB, setLane_setLane, lane_setLane, if_true, if_neg h1, if_neg h3]

theorem passB_eq_rewriteLanes (c : Cfg) (v : Lanes) : passB c v = rewriteLanes (mixB c) 8 (permuteKeyB c v) := by
  have hlane : laneB c = rewriteLane (mixB c) := funext₂ (laneB_eq_rewriteLane c)
  rw [passB, rewriteLanes, hlane]

/-- R217 (a): the permuted and keyed copy, lane by lane. -/
theorem lane_permuteKeyB (c : Cfg) (v : Lanes) {k : Nat} (h : k < 8) :
    lane (permuteKeyB c v) k = lane v (5 * k + 11) ^^^ c.kb.words.getD (k % c.kb.len) 0 := by
  rw [lane_eq _ h, permuteKeyB, Vector.getElem_ofFn, tableAt_eq_getD]
  simp [lane, pidxB]

/-- R217: what the lane loop reads, by the keyed lanes of the rule. -/
theorem laneInPass_permuteKeyB (c : Cfg) (v v' : Lanes) (j : Nat) :
    laneInPass (permuteKeyB c v) v' j =
      if j < 8 then lane v (5 * j + 11) ^^^ c.kb.words.getD (j % c.kb.len) 0 else lane v' j :=
  if_ctx_congr Iff.rfl (lane_permuteKeyB c v) fun _ => rfl

/-- R217: the rule's pass is the copy and then the lanes in place. -/
theorem isPassB_of_isLanePass {c : Cfg} {v v' : Lanes} (h : IsLanePass (mixB c) (permuteKeyB c v) v') :
    isPassB c v v' := by
  intro i hi
  have hlane := h i hi
  rw [lane_eq v' hi, lane_permuteKeyB c v hi, laneInPass_permuteKeyB, laneInPass_permuteKeyB, mixB, lane_eq c.ivB hi,
    rol_eq_rotateLeft, ror_eq_rotateRight, tableAt_eq_getD] at hlane
  exact hlane

theorem isPassB_passB (c : Cfg) (v : Lanes) : isPassB c v (passB c v) := by
  rw [passB_eq_rewriteLanes]
  exact isPassB_of_isLanePass (isLanePass_rewriteLanes (mixB c) (permuteKeyB c v))

/-- R217 (e): all the passes are the same function. -/
theorem finalB_eq_iterate (c : Cfg) (v : Lanes) : finalB c v = (passB c)^[16] v := by
  rw [finalB, List.foldl_const, List.length_range, npass]

/-! ### The passes of H-C and H-D (R218, R219) -/

/-- R218: the word of lane `i` in pass `p`, of the lane and of the lanes 1 and 3 places on. -/
def mixCD (p i : Nat) (x y z : Word) : Word := (avalanche x ^^^ ror y (p + i)) + z * gold

theorem passCD_eq_rewriteLanes (v : Lanes) (p : Nat) : passCD v p = rewriteLanes (mixCD p) 8 v := rfl

/-- R218: the rule's pass is the lanes in place. -/
theorem isPassCD_of_isLanePass {p : Nat} {v v' : Lanes} (h : IsLanePass (mixCD p) v v') : isPassCD p v v' := by
  intro i hi
  have hlane := h i hi
  rw [lane_eq v' hi, lane_eq v hi, mixCD, ror_eq_rotateRight] at hlane
  exact hlane

theorem isPassCD_passCD (v : Lanes) (p : Nat) : isPassCD p v (passCD v p) := by
  rw [passCD_eq_rewriteLanes]
  exact isPassCD_of_isLanePass (isLanePass_rewriteLanes (mixCD p) v)

/-- R218: the state after `p` passes goes to the state after `p + 1` by pass `p`. -/
theorem isPassCD_finalCD (v : Lanes) (p : Nat) : isPassCD p (finalCD p v) (finalCD (p + 1) v) := by
  rw [finalCD_succ]
  exact isPassCD_passCD (finalCD p v) p

/-! ### The command (R215) -/

/-- R215: FINAL in its own phase writes `S` and nothing else, by the variant. -/
theorem exec_final_of_ready {s : State} {v : Variant} (hphase : s.PHASE = .ready) (hvar : s.VAR = v) :
    exec .final s =
      .next { s with S := finalLanes s.cfg v s.S, PHASE := .fin, inflight := none, DONE := true } := by
  subst hvar
  exact exec_of_phase (i := .final) (by rw [phaseNext, if_pos hphase])

/-! ### The statements -/

/-- Settles O28: the sequence is the iteration of the model's pass. -/
theorem finalBRunsSixteenPasses : Obligations.FinalBRunsSixteenPasses := by
  intro s hphase hvar
  refine ⟨fun p => (passB s.cfg)^[p] s.S, rfl, fun p _ => ?pass, ?command⟩
  case pass =>
    simp only [Function.iterate_succ_apply']
    exact isPassB_passB s.cfg _
  case command => rw [exec_final_of_ready hphase hvar, finalLanes, finalB_eq_iterate]

/-- Settles O29: H-C and H-D run the same sequence, each to its own number of passes. -/
theorem finalCDRunsItsPasses : Obligations.FinalCDRunsItsPasses := by
  intro s n hphase hn
  refine ⟨fun p => finalCD p s.S, finalCD_zero s.S, fun p _ => isPassCD_finalCD s.S p, ?command⟩
  case command =>
    obtain ⟨hvar, rfl⟩ | ⟨hvar, rfl⟩ := hn <;> rw [exec_final_of_ready hphase hvar, finalLanes, npass]

/-- Settles O27: H-A's lanes after FINAL are the lanes before it. -/
theorem finalAChangesNoData : Obligations.FinalAChangesNoData :=
  fun _ hphase hvar => exec_final_of_ready hphase hvar

end Sys2Proof.Machine
end

section
/-! PROOFS. The statement of the family 49_host_protocol.md on determinism (R249): no unspecified value reaches a
register but `W` and `AC`. A state with other words in `W` and `AC` and another host's side is written
`withUnspecified`, and every operation of the model is shown to commute with that change: the transactions and the
ends of commands always, the commands of an open message where the words they read agree. Then the relation is kept
by the host's turn, by the reset input and by the core's turn, and so by a step. -/

namespace Sys2Proof.Machine

/-- R249, U1: `s` with other words in `W` and `AC`, and another host's side. -/
def withUnspecified (w : Sched) (ac : Table) (p : HostSide) (s : State) : State :=
  { s with W := w, AC := ac, host := p }

section
variable (w : Sched) (ac : Table) (p : HostSide) (s : State)

@[simp] theorem withUnspecified_W : (withUnspecified w ac p s).W = w := rfl
@[simp] theorem withUnspecified_AC : (withUnspecified w ac p s).AC = ac := rfl
@[simp] theorem withUnspecified_host : (withUnspecified w ac p s).host = p := rfl
@[simp] theorem withUnspecified_VAR : (withUnspecified w ac p s).VAR = s.VAR := rfl
@[simp] theorem withUnspecified_NROUNDS : (withUnspecified w ac p s).NROUNDS = s.NROUNDS := rfl
@[simp] theorem withUnspecified_busy : (withUnspecified w ac p s).busy = s.busy := rfl

end

/-! ### The relation -/

theorem SameButUnspecified.exists_eq {s t : State} (h : SameButUnspecified s t) :
    ∃ w ac p, t = withUnspecified w ac p s :=
  ⟨t.W, t.AC, t.host, h.rest.symm⟩

/-- Of the registers the host writes, the relation reads none: it is kept where both sides change alike and the
core's own registers stay. -/
theorem SameButUnspecified.of_sameCoreRegisters {s s' : State} {w : Sched} {ac : Table} {p p' : HostSide}
    (h : SameButUnspecified s (withUnspecified w ac p s)) (hs : SameCoreRegisters s s')
    (hturns : s'.host.turns = p'.turns) : SameButUnspecified s' (withUnspecified w ac p' s') where
  rest := rfl
  turns := hturns
  schedule := by rw [hs.PHASE, hs.VAR, hs.W]; exact h.schedule
  adaptive := by rw [hs.PHASE, hs.VAR, hs.AC]; exact h.adaptive

theorem SameButUnspecified.withTurns {s t : State} (h : SameButUnspecified s t) (ts : List Turn) :
    SameButUnspecified (withTurns ts s) (withTurns ts t) := by
  obtain ⟨w, ac, p, rfl⟩ := h.exists_eq
  exact h.of_sameCoreRegisters (p' := { p with turns := ts }) ⟨rfl, rfl, rfl, rfl, rfl, rfl, rfl⟩ rfl

/-! ### The host's turn and the reset input -/

/-- R65: a write reads and writes neither `W` nor `AC`. -/
theorem writeReg_withUnspecified (w : Sched) (ac : Table) (p : HostSide) (v : Word) (s : State) (r : Reg) :
    writeReg v (withUnspecified w ac p s) r = withUnspecified w ac p (writeReg v s r) := by
  cases r <;> rfl

theorem raiseErr_withUnspecified (w : Sched) (ac : Table) (p : HostSide) (e : Err) (s : State) :
    raiseErr e (withUnspecified w ac p s) = withUnspecified w ac p (raiseErr e s) := by
  cases e <;> rfl

theorem errored_withUnspecified (w : Sched) (ac : Table) (p : HostSide) (e : Err) (s : State) :
    errored e (withUnspecified w ac p s) = withUnspecified w ac p (errored e s) := by
  cases e <;> rfl

theorem answer_withUnspecified (w : Sched) (ac : Table) (p : HostSide) (a : Response) (s : State) :
    answer a (withUnspecified w ac p s) = withUnspecified w ac { p with response := some a } (answer a s) := rfl

/-- R62: what a read of `W` or a draw returns stays on the host's side. -/
theorem memRead_withUnspecified (w : Sched) (ac : Table) (p : HostSide) (off : Offset) (n : Nat) (s : State) :
    ∃ p', memRead off n (withUnspecified w ac p s) = withUnspecified w ac p' (memRead off n s) := by
  rw [memRead_eq_with_host off n s, memRead_eq_with_host off n (withUnspecified w ac p s)]
  exact ⟨_, rfl⟩

theorem memWrite_withUnspecified (w : Sched) (ac : Table) (p : HostSide) (off : Offset) (n : Nat) (v : Word)
    (s : State) :
    ∃ p', memWrite off n v (withUnspecified w ac p s) = withUnspecified w ac p' (memWrite off n v s) := by
  obtain ⟨ht, heq⟩ | ⟨r, ht, hb, heq⟩ | ⟨r, ht, hb, heq⟩ := memWrite_cases off n v s <;> rw [heq]
  · exact ⟨_, memWrite_of_target_eq_none ht v _⟩
  · exact ⟨{ p with response := some .ok }, by
      simp [memWrite, ht, hb, raiseErr_withUnspecified, answer_withUnspecified]⟩
  · exact ⟨{ p with response := some .ok }, by
      simp [memWrite, ht, hb, writeReg_withUnspecified, answer_withUnspecified]⟩

theorem access_withUnspecified (w : Sched) (ac : Table) (p : HostSide) (acc : Access) (s : State) :
    ∃ p', access acc (withUnspecified w ac p s) = withUnspecified w ac p' (access acc s) := by
  cases acc with
  | read off n => exact memRead_withUnspecified w ac p off n s
  | write off n v => exact memWrite_withUnspecified w ac p off n v s

theorem SameButUnspecified.access {s t : State} (h : SameButUnspecified s t) (acc : Access) :
    SameButUnspecified (access acc s) (access acc t) := by
  obtain ⟨w, ac, p, rfl⟩ := h.exists_eq
  obtain ⟨p', heq⟩ := access_withUnspecified w ac p acc s
  have hturns : p'.turns = p.turns := by
    rw [← withUnspecified_host w ac p' (Machine.access acc s), ← heq, access_turns, withUnspecified_host]
  rw [heq]
  exact h.of_sameCoreRegisters (sameCoreRegisters_access acc s) (by rw [access_turns, h.turns, hturns]; rfl)

/-- R286: the draws of a reset are unspecified, and it closes the message. -/
theorem SameButUnspecified.resetInput {s t : State} (h : SameButUnspecified s t) :
    SameButUnspecified (resetInput s) (resetInput t) where
  rest := by obtain ⟨w, ac, p, rfl⟩ := h.exists_eq; rfl
  turns := h.turns
  schedule := nofun
  adaptive := fun hopen => absurd rfl hopen

/-! ### The commands of an open message -/

/-- R140: the words the variant's rounds read are written from the block and from one another. -/
theorem schedWord_schedule_congr (v : Variant) (b : Block) (w w' : Sched) {k : Nat} (hk : k < nw v) :
    schedWord (schedule v b w) k = schedWord (schedule v b w') k := by
  have hv : v ≠ .D := by rintro rfl; exact absurd hk (Nat.not_lt_zero k)
  induction k using Nat.strongRecOn with
  | ind k ih =>
    obtain hstart | h16 := Nat.lt_or_ge k 16
    · simp only [schedWord_schedule_of_lt v b _ hstart]
      obtain hblk | hblk := Nat.lt_or_ge k (nblk v)
      · simp only [schedWord_schedStart_block b _ hv hblk]
      · cases v with
        | C => simp only [schedWord_schedStart_zero b _ hblk hstart]
        | A | B => exact absurd hstart (Nat.not_lt.mpr hblk)
        | D => exact absurd rfl hv
    · rw [schedWord_schedule_computed b w h16 hk, schedWord_schedule_computed b w' h16 hk]
      exact readsWordsBefore_scheduledWord v k h16 _ _ fun j hj => ih j hj (hj.trans hk)

section
variable {s : State} {w : Sched} {ac : Table} (p : HostSide)
  (hW : ∀ k < nw s.VAR, schedWord s.W k = schedWord w k) (hAC : s.VAR = .A → s.AC = ac)
include hW

/-- R163, R166, R169, R172: the message terms are words of the schedule, and for H-D of the block. -/
theorem messageTerm_withUnspecified (r : Nat) : messageTerm (withUnspecified w ac p s) r = messageTerm s r := by
  rw [messageTerm, messageTerm, withUnspecified_VAR]
  cases hv : s.VAR with
  | A => exact (hW (r % 100) (hv ▸ Nat.mod_lt r (by decide))).symm
  | B => exact (hW (r % 80) (hv ▸ Nat.mod_lt r (by decide))).symm
  | C => exact (hW (r % 64) (hv ▸ Nat.mod_lt r (by decide))).symm
  | D => rfl

include hAC

/-- R163, R165, R169, R172: the constants are of `AC` for H-A, of words of the schedule for H-C, of neither for
the others. -/
theorem roundConst_withUnspecified (r : Nat) : roundConst (withUnspecified w ac p s) r = roundConst s r := by
  rw [roundConst, roundConst, withUnspecified_VAR]
  cases hv : s.VAR with
  | A => exact congrArg (tableAt · r) (hAC hv).symm
  | C => exact congrArg (_ ^^^ ·) (hW (r % 64) (hv ▸ Nat.mod_lt r (by decide))).symm
  | B | D => rfl

theorem oneRound_withUnspecified (x : RoundVars) (r : Nat) :
    oneRound (withUnspecified w ac p s) x r = oneRound s x r := by
  unfold oneRound roundT1
  rw [roundConst_withUnspecified p hW hAC, messageTerm_withUnspecified p hW]
  rfl

theorem runRounds_withUnspecified (n : Nat) : runRounds (withUnspecified w ac p s) n = runRounds s n := by
  induction n with
  | zero => rfl
  | succ n ih => rw [runRounds_succ, runRounds_succ, ih, oneRound_withUnspecified p hW hAC]

theorem roundsEffect_withUnspecified :
    roundsEffect (withUnspecified w ac p s) = withUnspecified w ac p (roundsEffect s) := by
  unfold roundsEffect
  rw [withUnspecified_NROUNDS, runRounds_withUnspecified p hW hAC]
  rfl

end

theorem schedEffect_withUnspecified (w : Sched) (ac : Table) (p : HostSide) (s : State) :
    schedEffect (withUnspecified w ac p s) = withUnspecified (schedule s.VAR s.B w) ac p (schedEffect s) := rfl

theorem foldEffect_withUnspecified (w : Sched) (ac : Table) (p : HostSide) (s : State) :
    foldEffect (withUnspecified w ac p s) = withUnspecified w ac p (foldEffect s) := rfl

theorem finalEffect_withUnspecified (w : Sched) (ac : Table) (p : HostSide) (s : State) :
    finalEffect (withUnspecified w ac p s) = withUnspecified w ac p (finalEffect s) := rfl

/-- R205, R249: the rounds of BLOCK read the schedule that BLOCK itself writes. -/
theorem blockEffect_withUnspecified {s : State} (w : Sched) {ac : Table} (p : HostSide)
    (hAC : s.VAR = .A → s.AC = ac) :
    blockEffect (withUnspecified w ac p s) = withUnspecified (schedule s.VAR s.B w) ac p (blockEffect s) := by
  have hrounds := roundsEffect_withUnspecified (s := schedEffect s) (w := schedule s.VAR s.B w) p
    (fun _ hk => schedWord_schedule_congr s.VAR s.B s.W w hk) hAC
  rw [blockEffect, schedEffect_withUnspecified, hrounds, foldEffect_withUnspecified, blockEffect]

/-- R249: a command of the open message reads of `W` and `AC` only what is the same, and what SCHED leaves is the
same where the variant's rounds read it. -/
theorem effectOf_withUnspecified {s : State} {w : Sched} {ac : Table} {p : HostSide} {i : Instr} {q : Phase}
    (h : SameButUnspecified s (withUnspecified w ac p s)) (hi : keepsMessage i = true)
    (hq : phaseNext i s.PHASE = some q) :
    ∃ w', effectOf i (withUnspecified w ac p s) = withUnspecified w' ac p (effectOf i s) ∧
      (q = .schd → ∀ k < nw s.VAR, schedWord (effectOf i s).W k = schedWord w' k) := by
  cases i <;> simp only [keepsMessage, Bool.false_eq_true] at hi <;> simp only [phaseNext] at hq
  case nop =>
    obtain rfl : s.PHASE = q := Option.some.inj hq
    exact ⟨w, rfl, h.schedule⟩
  case sched => exact ⟨_, rfl, fun _ k hk => schedWord_schedule_congr s.VAR s.B s.W w hk⟩
  case rounds =>
    split_ifs at hq with hphase
    cases hq
    have hopen : s.PHASE ≠ .idle := by rw [hphase]; decide
    exact ⟨w, roundsEffect_withUnspecified p (h.schedule hphase) (h.adaptive hopen), nofun⟩
  case block =>
    split_ifs at hq with hphase
    cases hq
    have hopen : s.PHASE ≠ .idle := by rw [hphase]; decide
    exact ⟨_, blockEffect_withUnspecified w p (h.adaptive hopen), nofun⟩
  case fold =>
    split_ifs at hq
    cases hq
    exact ⟨w, foldEffect_withUnspecified w ac p s, nofun⟩
  case final =>
    split_ifs at hq
    cases hq
    exact ⟨w, finalEffect_withUnspecified w ac p s, nofun⟩

/-! ### The core's turn -/

theorem SameButUnspecified.errored {s t : State} (h : SameButUnspecified s t) (e : Err) :
    SameButUnspecified (errored e s) (errored e t) := by
  obtain ⟨w, ac, p, rfl⟩ := h.exists_eq
  have hturns : (Machine.errored e s).host.turns = p.turns := by cases e <;> exact h.turns
  rw [errored_withUnspecified]
  exact h.of_sameCoreRegisters (sameCoreRegisters_errored e s) hturns

/-- R124: INIT opens a message of H-A with constants of its own, and of another variant without reading them. -/
theorem SameButUnspecified.init {s t : State} (h : SameButUnspecified s t) (v : Variant) (liv : Bool) :
    SameButUnspecified (retire { initEffect v liv s with PHASE := .ready })
      (retire { initEffect v liv t with PHASE := .ready }) where
  rest := by obtain ⟨w, ac, p, rfl⟩ := h.exists_eq; rfl
  turns := h.turns
  schedule := nofun
  adaptive := fun _ hv => by
    obtain ⟨w, ac, p, rfl⟩ := h.exists_eq
    obtain rfl : v = .A := hv
    rfl

/-- R125: CLEAR writes every register and closes the message. -/
theorem SameButUnspecified.clear {s t : State} (h : SameButUnspecified s t) :
    SameButUnspecified (retire { clearEffect s with PHASE := .idle })
      (retire { clearEffect t with PHASE := .idle }) where
  rest := by obtain ⟨w, ac, p, rfl⟩ := h.exists_eq; rfl
  turns := h.turns
  schedule := nofun
  adaptive := fun hopen => absurd rfl hopen

theorem SameButUnspecified.of_keepsMessage {s t : State} (h : SameButUnspecified s t) {i : Instr} {q : Phase}
    (hi : keepsMessage i = true) (hq : phaseNext i s.PHASE = some q) :
    SameButUnspecified (retire { effectOf i s with PHASE := q }) (retire { effectOf i t with PHASE := q }) := by
  obtain ⟨w, ac, p, rfl⟩ := h.exists_eq
  obtain ⟨hAC, hVAR, -⟩ := effectOf_of_keepsMessage hi s
  have hidle := phaseNext_idle_iff_of_keepsMessage hi hq
  obtain ⟨w', heq, hW⟩ := effectOf_withUnspecified h hi hq
  rw [heq]
  constructor
  case rest => rfl
  case turns => exact (congrArg HostSide.turns (effectOf_host i s)).trans h.turns
  case schedule => simpa [hVAR] using hW
  case adaptive => simpa [hVAR, hAC, hidle] using h.adaptive

theorem SameButUnspecified.command {s t : State} (h : SameButUnspecified s t) {i : Instr} {q : Phase}
    (hq : phaseNext i s.PHASE = some q) :
    SameButUnspecified (retire { effectOf i s with PHASE := q }) (retire { effectOf i t with PHASE := q }) := by
  obtain ⟨v, liv, rfl⟩ | rfl | hi := message_cases i
  · obtain rfl : Phase.ready = q := by simpa using hq
    rw [effectOf_initOf]
    exact h.init v liv
  · obtain rfl : Phase.idle = q := by simpa [phaseNext] using hq
    exact h.clear
  · exact h.of_keepsMessage hi hq

theorem SameButUnspecified.runCommand {s t : State} (h : SameButUnspecified s t) (i : Instr) :
    SameButUnspecified (runCommand i (effectOf i) s) (runCommand i (effectOf i) t) := by
  have hphase : t.PHASE = s.PHASE := by rw [← h.rest]
  obtain ⟨hq, heq⟩ | ⟨q, hq, heq⟩ := runCommand_cases i (effectOf i) s <;> rw [heq]
  · rw [runCommand_out_of_phase (by rw [hphase, hq])]
    exact h.errored .seq
  · rw [runCommand_of_phase (by rw [hphase, hq])]
    exact h.command hq

/-- R120: the two cores complete the same word, in the same way. -/
theorem SameButUnspecified.complete {s s' t t' : State} (h : SameButUnspecified s s') (ht : complete s = .next t)
    (ht' : complete s' = .next t') : SameButUnspecified t t' := by
  have hinflight : s'.inflight = s.inflight := by rw [← h.rest]
  obtain ⟨hc, heq⟩ | ⟨c, e, hc, hd, heq⟩ | ⟨c, i, hc, hd, heq⟩ := complete_cases s
  · have heq' : Machine.complete s' = .next s' := by simp [Machine.complete, hinflight, hc]
    cases heq.symm.trans ht
    cases heq'.symm.trans ht'
    exact h
  · have heq' : Machine.complete s' = .next (Machine.errored .ill s') := by
      simp [Machine.complete, hinflight, hc, hd]
    cases heq.symm.trans ht
    cases heq'.symm.trans ht'
    exact h.errored .ill
  · have heq' := complete_of_decode (hinflight.trans hc) hd
    rw [exec_next (heq.symm.trans ht), exec_next (heq'.symm.trans ht')]
    exact h.runCommand i

/-! ### The statement -/

/-- Settles O53: both machines take the same turn, and each kind of turn keeps the relation. -/
theorem unspecifiedValuesReachNothing : Obligations.UnspecifiedValuesReachNothing := by
  intro s s' t t' h ht ht'
  cases hturns : s.host.turns with
  | nil =>
    rw [step_of_no_turn hturns] at ht
    rw [step_of_no_turn (h.turns ▸ hturns)] at ht'
    exact h.complete ht ht'
  | cons turn ts =>
    have hturns' : s'.host.turns = turn :: ts := h.turns ▸ hturns
    cases turn with
    | core =>
      rw [step_of_core hturns] at ht
      rw [step_of_core hturns'] at ht'
      exact (h.withTurns ts).complete ht ht'
    | host acc =>
      cases (step_of_host hturns).symm.trans ht
      cases (step_of_host hturns').symm.trans ht'
      exact (h.withTurns ts).access acc
    | reset =>
      cases (step_of_reset hturns).symm.trans ht
      cases (step_of_reset hturns').symm.trans ht'
      exact (h.withTurns ts).resetInput

end Sys2Proof.Machine
end

section
/-! PROOFS. The statements of the family 49_host_protocol.md, the host's duties. First the sizes of what the host
makes, by the model's definitions in their order: the footer, the padded string, the blocks, the digest; then
the last word of the padded string, which is the word its footer spells; then each statement by these rules. -/

namespace Sys2Proof.Machine

/-! ### The size of the padded string (R237, R238) -/

@[simp] theorem bytesMsbFirst_length (x : Word) : (bytesMsbFirst x).length = 8 := by
  simp [bytesMsbFirst]

@[simp] theorem bytesLsbFirst_length (x : Word) : (bytesLsbFirst x).length = 8 := by
  simp [bytesLsbFirst]

@[simp] theorem footer_length (m : PadMode) (o : FooterOrder) (l : Nat) :
    (footer m o l).length = m.footerBytes := by
  cases m with
  | p128 => exact bytesMsbFirst_length _
  | p64x2 => cases o <;> simp [footer, PadMode.footerBytes]

/-- R237, R238: the zeros fill the block that message, mark and footer leave open. -/
theorem add_padZeros (m : PadMode) (l : Nat) :
    l + 1 + padZeros m l + m.footerBytes = m.blockBytes * ((l + m.footerBytes) / m.blockBytes + 1) := by
  cases m <;> simp only [padZeros, PadMode.blockBytes, PadMode.footerBytes] <;> omega

/-- The padded string up to its footer. -/
def paddedFront (m : PadMode) (msg : List Byte) : List Byte :=
  msg ++ [0x80] ++ List.replicate (padZeros m msg.length) 0

theorem padded_eq_append (m : PadMode) (o : FooterOrder) (msg : List Byte) :
    padded m o msg = paddedFront m msg ++ footer m o msg.length := rfl

theorem paddedFront_length (m : PadMode) (msg : List Byte) :
    (paddedFront m msg).length + m.footerBytes =
      m.blockBytes * ((msg.length + m.footerBytes) / m.blockBytes + 1) := by
  rw [← add_padZeros]
  simp [paddedFront]
  omega

theorem padded_length (m : PadMode) (o : FooterOrder) (msg : List Byte) :
    (padded m o msg).length = m.blockBytes * ((msg.length + m.footerBytes) / m.blockBytes + 1) := by
  rw [padded_eq_append, List.length_append, footer_length, paddedFront_length]

/-! ### The blocks of a padded string (R240) -/

theorem blockBytes_pos (m : PadMode) : 0 < m.blockBytes := by
  cases m <;> decide

/-- R6, R237, R238: a block of a variant's padding has the variant's number of words. -/
theorem blockBytes_padModeOf (v : Variant) : (padModeOf v).blockBytes / 8 = nblk v := by
  cases v <;> rfl

theorem blockOfBytes_length (m : PadMode) (bs : List Byte) (j : Nat) :
    (blockOfBytes m bs j).length = m.blockBytes / 8 := by
  simp [blockOfBytes]

theorem length_of_mem_blocksOfBytes {m : PadMode} {bs : List Byte} {b : List Word}
    (h : b ∈ blocksOfBytes m bs) : b.length = m.blockBytes / 8 := by
  obtain ⟨j, -, rfl⟩ := List.mem_map.mp h
  exact blockOfBytes_length m bs j

theorem blocksOfBytes_length (m : PadMode) (bs : List Byte) :
    (blocksOfBytes m bs).length = bs.length / m.blockBytes := by
  simp [blocksOfBytes]

theorem blocksOfBytes_padded_length (m : PadMode) (o : FooterOrder) (msg : List Byte) :
    (blocksOfBytes m (padded m o msg)).length = (msg.length + m.footerBytes) / m.blockBytes + 1 := by
  rw [blocksOfBytes_length, padded_length, Nat.mul_div_cancel_left _ (blockBytes_pos m)]

/-- R239: the extra block has eight words, as the others of P64x2 have. -/
theorem length_of_mem_withExtraBlock {dfb : Nat → ExtraBlock} {l : Nat} {bl : List (List Word)} {b : List Word}
    (hbl : ∀ c ∈ bl, c.length = PadMode.p64x2.blockBytes / 8) (h : b ∈ withExtraBlock dfb l bl) :
    b.length = PadMode.p64x2.blockBytes / 8 := by
  unfold withExtraBlock at h
  split at h
  · obtain rfl | hb := (mem_insertBlock _ _ _).mp h
    · exact Vector.length_toList
    · exact hbl b hb
  · exact hbl b h

/-- R237: P128 has no extra block. -/
theorem messageBlocks_of_p128 {v : Variant} (hv : padModeOf v = .p128) (o : FooterOrder) (dfb : Nat → ExtraBlock)
    (msg : List Byte) : messageBlocks v o dfb msg = blocksOfBytes .p128 (padded .p128 o msg) := by
  simp only [messageBlocks, hv]

theorem messageBlocks_of_p64x2 {v : Variant} (hv : padModeOf v = .p64x2) (o : FooterOrder) (dfb : Nat → ExtraBlock)
    (msg : List Byte) :
    messageBlocks v o dfb msg = withExtraBlock dfb msg.length (blocksOfBytes .p64x2 (padded .p64x2 o msg)) := by
  simp only [messageBlocks, hv]

theorem padModeOf_eq_p128_iff (v : Variant) : padModeOf v = .p128 ↔ v = .A ∨ v = .B := by
  cases v <;> decide

/-- R240: every block of a message has the variant's number of words. -/
theorem length_of_mem_messageBlocks {v : Variant} {o : FooterOrder} {dfb : Nat → ExtraBlock} {msg : List Byte}
    {b : List Word} (h : b ∈ messageBlocks v o dfb msg) : b.length = nblk v := by
  rw [← blockBytes_padModeOf]
  cases hv : padModeOf v with
  | p128 =>
    rw [messageBlocks_of_p128 hv] at h
    exact length_of_mem_blocksOfBytes h
  | p64x2 =>
    rw [messageBlocks_of_p64x2 hv] at h
    exact length_of_mem_withExtraBlock (fun c hc => length_of_mem_blocksOfBytes hc) h

/-! ### The last word of a padded string (R237, R240) -/

/-- R13: a word is determined by its eight bytes. -/
theorem eq_of_byteOf_eq {x y : Word} (h : ∀ k < 8, byteOf x k = byteOf y k) : x = y := by
  apply BitVec.eq_of_getLsbD_eq
  intro i hi
  have hbyte := h (7 - i / 8) (by omega)
  rw [byteOf_eq_extractLsb' x (by omega), byteOf_eq_extractLsb' y (by omega)] at hbyte
  have hbit := congrArg (·.getLsbD (i % 8)) hbyte
  have hpos : 56 - 8 * (7 - i / 8) + i % 8 = i := by omega
  simpa [BitVec.getLsbD_extractLsb', Nat.mod_lt, hpos] using hbit

/-- R58: packing the bytes of a word gives the word. -/
theorem packBytes_bytesMsbFirst (x : Word) : packBytes (bytesMsbFirst x) = x := by
  apply eq_of_byteOf_eq
  intro k hk
  have hpos : 56 - 8 * k = 8 * (7 - k) := by omega
  have hidx : 8 - 1 - (7 - k) = k := by omega
  rw [byteOf_eq_extractLsb' _ hk, hpos, packBytes_extractLsb' _ (by omega) (by simp; omega)]
  simp [bytesMsbFirst, hidx]

/-- R59: the word after `k` words is spelt by the bytes that stand there. -/
theorem wordOfBytes_append {front : List Byte} {k : Nat} (hfront : front.length = 8 * k) (x : Word) :
    wordOfBytes (front ++ bytesMsbFirst x) k = x := by
  rw [wordOfBytes, ← hfront, List.drop_left, List.take_of_length_le (bytesMsbFirst_length x).le,
    packBytes_bytesMsbFirst]

/-- R240: the last block of a string of `n + 1` P128 blocks. -/
theorem getLast?_blocksOfBytes {bs : List Byte} {n : Nat} (h : bs.length = 128 * (n + 1)) :
    (blocksOfBytes .p128 bs).getLast? = some (blockOfBytes .p128 bs n) := by
  have hcount : bs.length / PadMode.p128.blockBytes = n + 1 := by
    rw [h]; exact Nat.mul_div_cancel_left _ (by decide)
  rw [blocksOfBytes, hcount, List.getLast?_map, List.getLast?_range, if_neg (Nat.succ_ne_zero n)]
  rfl

/-- R240: the last word of block `j`. -/
theorem getLast?_blockOfBytes (bs : List Byte) (j : Nat) :
    (blockOfBytes .p128 bs j).getLast? = some (wordOfBytes bs (16 * j + 15)) := by
  rw [blockOfBytes, List.getLast?_map, List.getLast?_range, Nat.mul_comm]
  rfl

/-! ### The digest string (R245, R246) -/

@[simp] theorem hexWord_length (x : Word) : (hexWord x).length = 16 := by
  simp [hexWord]

theorem hexDigits_length (v : Lanes) : (hexDigits v).length = 128 := by
  simp [hexDigits, List.length_flatMap]

/-! ### The statements -/

/-- Settles O55: the length of the padded string at each mode's sizes. -/
theorem paddedMessageBlockCount : Obligations.PaddedMessageBlockCount :=
  fun o msg => ⟨padded_length .p128 o msg, padded_length .p64x2 o msg⟩

/-- Settles O56: the blocks of the padded string, and for P64x2 the extra one. -/
theorem messageBlockCount : Obligations.MessageBlockCount := by
  intro v o dfb msg
  refine ⟨fun b => length_of_mem_messageBlocks, ?count⟩
  simp only [← padModeOf_eq_p128_iff]
  cases hv : padModeOf v with
  | p128 =>
    rw [messageBlocks_of_p128 hv, blocksOfBytes_padded_length]
    rfl
  | p64x2 =>
    rw [messageBlocks_of_p64x2 hv, withExtraBlock_length, blocksOfBytes_padded_length]
    rfl

/-- Settles O57: the last word begins where the footer does, and the footer spells the bit length. -/
theorem lastP128WordIsBitLength : Obligations.LastP128WordIsBitLength := by
  intro o msg
  have hfront : (paddedFront .p128 msg).length = 8 * (16 * ((msg.length + 8) / 128) + 15) := by
    have hwhole : (paddedFront .p128 msg).length + 8 = 128 * ((msg.length + 8) / 128 + 1) :=
      paddedFront_length .p128 msg
    omega
  rw [getLast?_blocksOfBytes (padded_length .p128 o msg), Option.bind_some, getLast?_blockOfBytes]
  exact congrArg some (wordOfBytes_append hfront (bitLength msg.length))

/-- Settles O58: the fold over the code units takes the last one last. -/
theorem hashCodeRecurrence : Obligations.HashCodeRecurrence := by
  refine ⟨rfl, fun us u => ?_⟩
  rw [hashCode, List.foldl_concat, BitVec.ofNat_toNat]
  rfl

/-- Settles O59: sixteen digits for each of eight words, and H-A's suffix. -/
theorem digestLength : Obligations.DigestLength := by
  intro var v
  have hdigits := hexDigits_length v
  cases var with
  | A => rw [digestChars, List.length_append, hdigits]; rfl
  | B | C | D => exact hdigits

end Sys2Proof.Machine
end

section
/-! PROOFS. The statements of the family 60_exceptions.md. First the fifteen commands as a list, whose words are the
legal ones; then what a command raises, by the phase table; then that every turn has a next state, and the interrupt
output at the two ends of a command; then each statement by these rules. -/

namespace Sys2Proof.Machine

/-! ### The fifteen commands (R262) -/

/-- R72, R262: every command, INIT once for each variant and each LIV bit, in the order in which R262 lists the
words. -/
def allCommands : List Instr :=
  [.nop, .initA false, .initB false, .initC false, .initD false, .initA true, .initB true, .initC true, .initD true,
    .sched, .rounds, .fold, .block, .final, .clear]

theorem mem_allCommands (i : Instr) : i ∈ allCommands := by
  cases i with
  | initA liv | initB liv | initC liv | initD liv => cases liv <;> decide
  | nop | sched | rounds | fold | block | final | clear => decide

/-- R81, R262: the words of the commands, written out. -/
theorem map_encode_allCommands :
    allCommands.map encode =
      [0x000, 0x001, 0x011, 0x021, 0x031, 0x101, 0x111, 0x121, 0x131,
        0x002, 0x003, 0x004, 0x005, 0x006, 0x007] := rfl

/-- R76: the words the decoder reads are the words of the commands. -/
theorem exists_decode_iff_mem_map_encode (c : Word) :
    (∃ i, decode c = .ok i) ↔ c ∈ allCommands.map encode := by
  simp only [decode_eq_ok_iff_encode, List.mem_map, mem_allCommands, true_and]

/-! ### The phase table and ERR_SEQ (R79, R263) -/

/-- R260, R268: no command's rule sets ERR_SEQ; CLEAR takes it back and the others leave it. -/
theorem ERR_SEQ_of_effectOf {i : Instr} {s : State} (h : (effectOf i s).ERR_SEQ = true) : s.ERR_SEQ = true := by
  obtain rfl | hclear := eq_or_ne i .clear
  · simp [effectOf] at h
  · rwa [← (sameHostRegisters_effectOf hclear s).ERR_SEQ]

/-- R263: command `i` runs from `s`, ends in phase `p` and raises no ERR_SEQ. -/
def EndsIn (i : Instr) (s : State) (p : Phase) : Prop :=
  ∃ t, exec i s = .next t ∧ t.PHASE = p ∧ (t.ERR_SEQ = true → s.ERR_SEQ = true)

theorem endsIn_of_phase {i : Instr} {s : State} {p : Phase} (h : phaseNext i s.PHASE = some p) : EndsIn i s p :=
  ⟨_, exec_of_phase h, rfl, ERR_SEQ_of_effectOf⟩

/-- R79, R263: a command that the table allows in one phase only ends in the phase of that cell, and in every other
phase sets ERR_SEQ and ends. -/
theorem endsIn_or_seqError {i : Instr} {s : State} {p q : Phase}
    (h : phaseNext i s.PHASE = if s.PHASE = p then some q else none) :
    if s.PHASE = p then EndsIn i s q
    else exec i s = .next { s with ERR_SEQ := true, inflight := none, DONE := true } := by
  split_ifs at h ⊢ with hphase
  · exact endsIn_of_phase h
  · exact exec_out_of_phase h

/-! ### Every turn has a next state (R11, R260) -/

theorem exists_complete_eq_next (s : State) : ∃ t, complete s = .next t := by
  obtain ⟨t, hcomplete, -, -⟩ := complete_ends s
  exact ⟨t, hcomplete⟩

/-! ### The interrupt output (R269) -/

/-- R120: acceptance takes DONE back. -/
@[simp] theorem irq_accept (c : Word) (s : State) : irq (accept c s) = false := by
  rw [irq, accept_DONE, Bool.and_false]

/-- R120: the end of a command sets DONE. -/
@[simp] theorem irq_retire (s : State) : irq (retire s) = s.IE := by
  rw [irq, retire_DONE, retire_IE, Bool.and_true]

/-- R269: every completion of a command is a source of the interrupt, one in error included. -/
theorem irq_runCommand (i : Instr) (s : State) : irq (runCommand i (effectOf i) s) = s.IE := by
  obtain ⟨-, hrun⟩ | ⟨p, -, hrun⟩ := runCommand_cases i (effectOf i) s <;> rw [hrun]
  · exact irq_retire (raiseErr .seq s)
  · rw [irq_retire]
    exact effectOf_IE i s

/-! ### The statements -/

/-- Settles O7: the cells of the table that name a phase, then the commands with one phase each. -/
theorem phaseTableGovernsCommands : Obligations.PhaseTableGovernsCommands :=
  fun s => ⟨endsIn_of_phase rfl, endsIn_of_phase rfl, fun v liv => endsIn_of_phase (phaseNext_initOf v liv s.PHASE),
    endsIn_or_seqError rfl, endsIn_or_seqError rfl, endsIn_or_seqError rfl, endsIn_or_seqError rfl,
    endsIn_or_seqError rfl⟩

/-- Settles O4: the listed words are those of the commands, in the order of the list. -/
theorem fifteenLegalWords : Obligations.FifteenLegalWords := by
  intro c
  rw [exists_decode_iff_mem_map_encode, map_encode_allCommands]

/-- Settles O9: the core's turn always has a next state, and so do the host's and the reset. -/
theorem noStepStops : Obligations.NoStepStops := by
  intro s
  obtain ⟨-, hstep⟩ | ⟨ts, -, hstep⟩ | ⟨acc, ts, -, hstep⟩ | ⟨ts, -, hstep⟩ := step_cases s <;> rw [hstep]
  · exact exists_complete_eq_next s
  · exact exists_complete_eq_next (withTurns ts s)
  · exact ⟨_, rfl⟩
  · exact ⟨_, rfl⟩

/-- Settles O46: acceptance takes DONE back, and every completion sets it and leaves IE. -/
theorem irqFollowsDoneAndEnable : Obligations.IrqFollowsDoneAndEnable :=
  fun c i s => ⟨irq_accept c s, _, exec_eq_runCommand i s, irq_runCommand i s⟩

end Sys2Proof.Machine
end

section
/-! PROOFS. The statements of the family 70_reset_and_hazards.md. First the values the reset input leaves on the
outputs; then which commands in flight can change the variant; then each statement by these rules. -/

namespace Sys2Proof.Machine

/-! ### The outputs after the reset input (R40, R285) -/

/-- STATUS reads what it reads in the machine's reset state: neither the tables nor a draw shows in it. -/
@[simp] theorem statusWord_resetInput (s : State) : statusWord (resetInput s) = 0 :=
  calc statusWord (resetInput s) = statusWord State.reset := rfl
    _ = 0 := rfl

@[simp] theorem irq_resetInput (s : State) : irq (resetInput s) = false := rfl

/-- R285: the reset input leaves the host's turns (log 10). -/
@[simp] theorem resetInput_turns (s : State) : (resetInput s).host.turns = s.host.turns := rfl

/-! ### What changes the variant (R295) -/

/-- A command of the open message keeps the variant, in phase and out of it. -/
theorem runCommand_VAR_of_keepsMessage {i : Instr} (h : keepsMessage i = true) (s : State) :
    (runCommand i (effectOf i) s).VAR = s.VAR := by
  obtain ⟨-, hrun⟩ | ⟨p, -, hrun⟩ := runCommand_cases i (effectOf i) s <;> rw [hrun]
  · exact (sameCoreRegisters_errored .seq s).VAR
  · obtain ⟨-, hVAR, -⟩ := effectOf_of_keepsMessage h s
    exact hVAR

/-- R295: the core's turn changes the variant only where the word in flight is that of CLEAR or of an INIT. -/
theorem inflight_of_complete_VAR_ne {s t : State} (h : complete s = .next t) (hVAR : t.VAR ≠ s.VAR) :
    s.inflight = some (encode .clear) ∨ ∃ v liv, s.inflight = some (encode (initOf v liv)) := by
  obtain ⟨-, heq⟩ | ⟨c, e, -, -, heq⟩ | ⟨c, i, hc, hd, heq⟩ := complete_cases s <;> rw [heq] at h
  · cases h
    exact absurd rfl hVAR
  · cases h
    exact absurd (sameCoreRegisters_errored .ill s).VAR hVAR
  · have hword : s.inflight = some (encode i) := by rw [hc, decode_eq_ok_iff_encode.mp hd]
    obtain ⟨v, liv, rfl⟩ | rfl | hkeeps := message_cases i
    · exact .inr ⟨v, liv, hword⟩
    · exact .inl hword
    · rw [exec_next h] at hVAR
      exact absurd (runCommand_VAR_of_keepsMessage hkeeps s) hVAR

/-! ### The statements -/

/-- Settles O52: a turn of the host keeps the variant, so the turn is the core's or the reset input. -/
theorem variantChangesOnlyAtInitClearReset : Obligations.VariantChangesOnlyAtInitClearReset := by
  intro s t h hVAR
  obtain ⟨hturns, heq⟩ | ⟨ts, hturns, heq⟩ | ⟨acc, ts, -, heq⟩ | ⟨ts, hturns, -⟩ := step_cases s
  · rw [heq] at h
    exact .inr ⟨coreActsNext_iff.mpr (.inl hturns), inflight_of_complete_VAR_ne h hVAR⟩
  · rw [heq] at h
    exact .inr ⟨coreActsNext_iff.mpr (.inr ⟨ts, hturns⟩),
      inflight_of_complete_VAR_ne (s := withTurns ts s) h hVAR⟩
  · rw [heq] at h
    cases h
    exact absurd (sameCoreRegisters_access acc (withTurns ts s)).VAR hVAR
  · exact .inl ⟨ts, hturns⟩

/-- Settles O47: the step is the reset input, whose registers are those of `State.resetWith`. -/
theorem resetInputClearsRegisters : Obligations.ResetInputClearsRegisters := by
  intro s ts hturns
  exact ⟨resetInput (withTurns ts s), step_of_reset hturns, rfl, rfl, rfl, rfl, rfl, rfl, rfl, rfl,
    statusWord_resetInput _, rfl, irq_resetInput _, rfl, resetInput_cfg _, resetInput_turns _⟩

end Sys2Proof.Machine
end
